-- ==== Sys2Proof/Word.lean ====
section
/-! DEFINITION. The word types and their plainest arithmetic (R6). -/

namespace Sys2Proof

/-- A register, an element of R or H, a cell of `cm`: 32 bits (XLEN, R5). -/
abbrev Word := BitVec 32

/-- An element of M or P, an operand byte: 8 bits (R25, R70). -/
abbrev Byte := BitVec 8

/-- `u32(v) = v mod 2^32`, for every integer `v`, negative ones included (R6). -/
def u32 (v : Int) : Word := BitVec.ofInt 32 v

end Sys2Proof
end

