-- ==== Sys2Proof/Syntax.lean ====
section
/-! DEFINITION. The syntax: the operand forms, one constructor of `Instr` per row of spec/opcode_table.json (R104 to
R107), and the component descriptors of the COMP section (R112). -/

namespace Sys2Proof

/-- A location operand X, the field `y` or `z` values 0 to 6 (R130). -/
inductive Loc where
  | a | b | c | d
  | mb  -- the byte `M[B mod MSIZE]`, written `*B`
  | mc  -- the byte `M[C mod MSIZE]`, written `*C`
  | hd  -- the word `H[D mod HSIZE]`, written `*D`
  deriving DecidableEq, Repr

/-- A source operand S: a location (`z` 0 to 6) or the operand byte N (`z = 7`) (R105, R200). -/
inductive Src where
  | loc (x : Loc)
  | imm (n : Byte)
  deriving DecidableEq, Repr

/-- The operations `k` = 0 to 10 that write A (R106, R260). -/
inductive AluOp where
  | add | sub | mul | div | mod | and | andNot | or | xor | shl | shr
  deriving DecidableEq, Repr

/-- The comparisons `k` = 11 to 13 that write F (R106, R310). -/
inductive CmpOp where
  | eq | lt | gt
  deriving DecidableEq, Repr

/-- The instructions: the 216 defined opcodes and the 40 undefined ones (R107), the defined ones in the order of the
opcode byte, then the undefined ones. An operand is a byte of the instruction (R100, R101), so every term of this type is well formed. -/
inductive Instr where
  | error  -- 0: `ERROR`
  | incA  -- 1: `A++`
  | decA  -- 2: `A--`
  | notA  -- 3: `A!`
  | zeroA  -- 4: `A=0`
  | ldA (n : Byte)  -- 7: `A=R N`
  | swapB  -- 8: `B<>A`
  | incB  -- 9: `B++`
  | decB  -- 10: `B--`
  | notB  -- 11: `B!`
  | zeroB  -- 12: `B=0`
  | ldB (n : Byte)  -- 15: `B=R N`
  | swapC  -- 16: `C<>A`
  | incC  -- 17: `C++`
  | decC  -- 18: `C--`
  | notC  -- 19: `C!`
  | zeroC  -- 20: `C=0`
  | ldC (n : Byte)  -- 23: `C=R N`
  | swapD  -- 24: `D<>A`
  | incD  -- 25: `D++`
  | decD  -- 26: `D--`
  | notD  -- 27: `D!`
  | zeroD  -- 28: `D=0`
  | ldD (n : Byte)  -- 31: `D=R N`
  | swapMb  -- 32: `*B<>A`
  | incMb  -- 33: `*B++`
  | decMb  -- 34: `*B--`
  | notMb  -- 35: `*B!`
  | zeroMb  -- 36: `*B=0`
  | jt (n : Byte)  -- 39: `JT N`
  | swapMc  -- 40: `*C<>A`
  | incMc  -- 41: `*C++`
  | decMc  -- 42: `*C--`
  | notMc  -- 43: `*C!`
  | zeroMc  -- 44: `*C=0`
  | jf (n : Byte)  -- 47: `JF N`
  | swapHd  -- 48: `*D<>A`
  | incHd  -- 49: `*D++`
  | decHd  -- 50: `*D--`
  | notHd  -- 51: `*D!`
  | zeroHd  -- 52: `*D=0`
  | stA (n : Byte)  -- 55: `R=A N`
  | halt  -- 56: `HALT`
  | out  -- 57: `OUT`
  | hash  -- 59: `HASH`
  | hashd  -- 60: `HASHD`
  | jmp (n : Byte)  -- 63: `JMP N`
  | movAA  -- 64: `A=A`
  | movAB  -- 65: `A=B`
  | movAC  -- 66: `A=C`
  | movAD  -- 67: `A=D`
  | movAMb  -- 68: `A=*B`
  | movAMc  -- 69: `A=*C`
  | movAHd  -- 70: `A=*D`
  | movAN (n : Byte)  -- 71: `A= N`
  | movBA  -- 72: `B=A`
  | movBB  -- 73: `B=B`
  | movBC  -- 74: `B=C`
  | movBD  -- 75: `B=D`
  | movBMb  -- 76: `B=*B`
  | movBMc  -- 77: `B=*C`
  | movBHd  -- 78: `B=*D`
  | movBN (n : Byte)  -- 79: `B= N`
  | movCA  -- 80: `C=A`
  | movCB  -- 81: `C=B`
  | movCC  -- 82: `C=C`
  | movCD  -- 83: `C=D`
  | movCMb  -- 84: `C=*B`
  | movCMc  -- 85: `C=*C`
  | movCHd  -- 86: `C=*D`
  | movCN (n : Byte)  -- 87: `C= N`
  | movDA  -- 88: `D=A`
  | movDB  -- 89: `D=B`
  | movDC  -- 90: `D=C`
  | movDD  -- 91: `D=D`
  | movDMb  -- 92: `D=*B`
  | movDMc  -- 93: `D=*C`
  | movDHd  -- 94: `D=*D`
  | movDN (n : Byte)  -- 95: `D= N`
  | movMbA  -- 96: `*B=A`
  | movMbB  -- 97: `*B=B`
  | movMbC  -- 98: `*B=C`
  | movMbD  -- 99: `*B=D`
  | movMbMb  -- 100: `*B=*B`
  | movMbMc  -- 101: `*B=*C`
  | movMbHd  -- 102: `*B=*D`
  | movMbN (n : Byte)  -- 103: `*B= N`
  | movMcA  -- 104: `*C=A`
  | movMcB  -- 105: `*C=B`
  | movMcC  -- 106: `*C=C`
  | movMcD  -- 107: `*C=D`
  | movMcMb  -- 108: `*C=*B`
  | movMcMc  -- 109: `*C=*C`
  | movMcHd  -- 110: `*C=*D`
  | movMcN (n : Byte)  -- 111: `*C= N`
  | movHdA  -- 112: `*D=A`
  | movHdB  -- 113: `*D=B`
  | movHdC  -- 114: `*D=C`
  | movHdD  -- 115: `*D=D`
  | movHdMb  -- 116: `*D=*B`
  | movHdMc  -- 117: `*D=*C`
  | movHdHd  -- 118: `*D=*D`
  | movHdN (n : Byte)  -- 119: `*D= N`
  | addA  -- 128: `A+=A`
  | addB  -- 129: `A+=B`
  | addC  -- 130: `A+=C`
  | addD  -- 131: `A+=D`
  | addMb  -- 132: `A+=*B`
  | addMc  -- 133: `A+=*C`
  | addHd  -- 134: `A+=*D`
  | addN (n : Byte)  -- 135: `A+= N`
  | subA  -- 136: `A-=A`
  | subB  -- 137: `A-=B`
  | subC  -- 138: `A-=C`
  | subD  -- 139: `A-=D`
  | subMb  -- 140: `A-=*B`
  | subMc  -- 141: `A-=*C`
  | subHd  -- 142: `A-=*D`
  | subN (n : Byte)  -- 143: `A-= N`
  | mulA  -- 144: `A*=A`
  | mulB  -- 145: `A*=B`
  | mulC  -- 146: `A*=C`
  | mulD  -- 147: `A*=D`
  | mulMb  -- 148: `A*=*B`
  | mulMc  -- 149: `A*=*C`
  | mulHd  -- 150: `A*=*D`
  | mulN (n : Byte)  -- 151: `A*= N`
  | divA  -- 152: `A/=A`
  | divB  -- 153: `A/=B`
  | divC  -- 154: `A/=C`
  | divD  -- 155: `A/=D`
  | divMb  -- 156: `A/=*B`
  | divMc  -- 157: `A/=*C`
  | divHd  -- 158: `A/=*D`
  | divN (n : Byte)  -- 159: `A/= N`
  | modA  -- 160: `A%=A`
  | modB  -- 161: `A%=B`
  | modC  -- 162: `A%=C`
  | modD  -- 163: `A%=D`
  | modMb  -- 164: `A%=*B`
  | modMc  -- 165: `A%=*C`
  | modHd  -- 166: `A%=*D`
  | modN (n : Byte)  -- 167: `A%= N`
  | andA  -- 168: `A&=A`
  | andB  -- 169: `A&=B`
  | andC  -- 170: `A&=C`
  | andD  -- 171: `A&=D`
  | andMb  -- 172: `A&=*B`
  | andMc  -- 173: `A&=*C`
  | andHd  -- 174: `A&=*D`
  | andN (n : Byte)  -- 175: `A&= N`
  | andNotA  -- 176: `A&~A`
  | andNotB  -- 177: `A&~B`
  | andNotC  -- 178: `A&~C`
  | andNotD  -- 179: `A&~D`
  | andNotMb  -- 180: `A&~*B`
  | andNotMc  -- 181: `A&~*C`
  | andNotHd  -- 182: `A&~*D`
  | andNotN (n : Byte)  -- 183: `A&~ N`
  | orA  -- 184: `A|=A`
  | orB  -- 185: `A|=B`
  | orC  -- 186: `A|=C`
  | orD  -- 187: `A|=D`
  | orMb  -- 188: `A|=*B`
  | orMc  -- 189: `A|=*C`
  | orHd  -- 190: `A|=*D`
  | orN (n : Byte)  -- 191: `A|= N`
  | xorA  -- 192: `A^=A`
  | xorB  -- 193: `A^=B`
  | xorC  -- 194: `A^=C`
  | xorD  -- 195: `A^=D`
  | xorMb  -- 196: `A^=*B`
  | xorMc  -- 197: `A^=*C`
  | xorHd  -- 198: `A^=*D`
  | xorN (n : Byte)  -- 199: `A^= N`
  | shlA  -- 200: `A<<=A`
  | shlB  -- 201: `A<<=B`
  | shlC  -- 202: `A<<=C`
  | shlD  -- 203: `A<<=D`
  | shlMb  -- 204: `A<<=*B`
  | shlMc  -- 205: `A<<=*C`
  | shlHd  -- 206: `A<<=*D`
  | shlN (n : Byte)  -- 207: `A<<= N`
  | shrA  -- 208: `A>>=A`
  | shrB  -- 209: `A>>=B`
  | shrC  -- 210: `A>>=C`
  | shrD  -- 211: `A>>=D`
  | shrMb  -- 212: `A>>=*B`
  | shrMc  -- 213: `A>>=*C`
  | shrHd  -- 214: `A>>=*D`
  | shrN (n : Byte)  -- 215: `A>>= N`
  | eqA  -- 216: `A==A`
  | eqB  -- 217: `A==B`
  | eqC  -- 218: `A==C`
  | eqD  -- 219: `A==D`
  | eqMb  -- 220: `A==*B`
  | eqMc  -- 221: `A==*C`
  | eqHd  -- 222: `A==*D`
  | eqN (n : Byte)  -- 223: `A== N`
  | ltA  -- 224: `A<A`
  | ltB  -- 225: `A<B`
  | ltC  -- 226: `A<C`
  | ltD  -- 227: `A<D`
  | ltMb  -- 228: `A<*B`
  | ltMc  -- 229: `A<*C`
  | ltHd  -- 230: `A<*D`
  | ltN (n : Byte)  -- 231: `A< N`
  | gtA  -- 232: `A>A`
  | gtB  -- 233: `A>B`
  | gtC  -- 234: `A>C`
  | gtD  -- 235: `A>D`
  | gtMb  -- 236: `A>*B`
  | gtMc  -- 237: `A>*C`
  | gtHd  -- 238: `A>*D`
  | gtN (n : Byte)  -- 239: `A> N`
  | lj (nl : Byte) (nh : Byte)  -- 255: `LJ NL NH`
  | undef5  -- 5: undefined
  | undef6  -- 6: undefined
  | undef13  -- 13: undefined
  | undef14  -- 14: undefined
  | undef21  -- 21: undefined
  | undef22  -- 22: undefined
  | undef29  -- 29: undefined
  | undef30  -- 30: undefined
  | undef37  -- 37: undefined
  | undef38  -- 38: undefined
  | undef45  -- 45: undefined
  | undef46  -- 46: undefined
  | undef53  -- 53: undefined
  | undef54  -- 54: undefined
  | undef58  -- 58: undefined
  | undef61  -- 61: undefined
  | undef62  -- 62: undefined
  | undef120  -- 120: undefined
  | undef121  -- 121: undefined
  | undef122  -- 122: undefined
  | undef123  -- 123: undefined
  | undef124  -- 124: undefined
  | undef125  -- 125: undefined
  | undef126  -- 126: undefined
  | undef127  -- 127: undefined
  | undef240  -- 240: undefined
  | undef241  -- 241: undefined
  | undef242  -- 242: undefined
  | undef243  -- 243: undefined
  | undef244  -- 244: undefined
  | undef245  -- 245: undefined
  | undef246  -- 246: undefined
  | undef247  -- 247: undefined
  | undef248  -- 248: undefined
  | undef249  -- 249: undefined
  | undef250  -- 250: undefined
  | undef251  -- 251: undefined
  | undef252  -- 252: undefined
  | undef253  -- 253: undefined
  | undef254  -- 254: undefined
  deriving DecidableEq, Repr

/-! The families of instructions by their operands: which constructor a family's field values select (R104 to R106). -/

/-- `X++` (R138 to R144). -/
def Instr.ofInc : Loc → Instr
  | .a => .incA
  | .b => .incB
  | .c => .incC
  | .d => .incD
  | .mb => .incMb
  | .mc => .incMc
  | .hd => .incHd

/-- `X--` (R145 to R151). -/
def Instr.ofDec : Loc → Instr
  | .a => .decA
  | .b => .decB
  | .c => .decC
  | .d => .decD
  | .mb => .decMb
  | .mc => .decMc
  | .hd => .decHd

/-- `X!` (R152 to R158). -/
def Instr.ofNot : Loc → Instr
  | .a => .notA
  | .b => .notB
  | .c => .notC
  | .d => .notD
  | .mb => .notMb
  | .mc => .notMc
  | .hd => .notHd

/-- `X=0` (R159 to R165). -/
def Instr.ofZero : Loc → Instr
  | .a => .zeroA
  | .b => .zeroB
  | .c => .zeroC
  | .d => .zeroD
  | .mb => .zeroMb
  | .mc => .zeroMc
  | .hd => .zeroHd

/-- `X=S` (R201 to R256). -/
def Instr.ofMov : Loc → Src → Instr
  | .a, .loc .a => .movAA
  | .a, .loc .b => .movAB
  | .a, .loc .c => .movAC
  | .a, .loc .d => .movAD
  | .a, .loc .mb => .movAMb
  | .a, .loc .mc => .movAMc
  | .a, .loc .hd => .movAHd
  | .a, .imm n => .movAN n
  | .b, .loc .a => .movBA
  | .b, .loc .b => .movBB
  | .b, .loc .c => .movBC
  | .b, .loc .d => .movBD
  | .b, .loc .mb => .movBMb
  | .b, .loc .mc => .movBMc
  | .b, .loc .hd => .movBHd
  | .b, .imm n => .movBN n
  | .c, .loc .a => .movCA
  | .c, .loc .b => .movCB
  | .c, .loc .c => .movCC
  | .c, .loc .d => .movCD
  | .c, .loc .mb => .movCMb
  | .c, .loc .mc => .movCMc
  | .c, .loc .hd => .movCHd
  | .c, .imm n => .movCN n
  | .d, .loc .a => .movDA
  | .d, .loc .b => .movDB
  | .d, .loc .c => .movDC
  | .d, .loc .d => .movDD
  | .d, .loc .mb => .movDMb
  | .d, .loc .mc => .movDMc
  | .d, .loc .hd => .movDHd
  | .d, .imm n => .movDN n
  | .mb, .loc .a => .movMbA
  | .mb, .loc .b => .movMbB
  | .mb, .loc .c => .movMbC
  | .mb, .loc .d => .movMbD
  | .mb, .loc .mb => .movMbMb
  | .mb, .loc .mc => .movMbMc
  | .mb, .loc .hd => .movMbHd
  | .mb, .imm n => .movMbN n
  | .mc, .loc .a => .movMcA
  | .mc, .loc .b => .movMcB
  | .mc, .loc .c => .movMcC
  | .mc, .loc .d => .movMcD
  | .mc, .loc .mb => .movMcMb
  | .mc, .loc .mc => .movMcMc
  | .mc, .loc .hd => .movMcHd
  | .mc, .imm n => .movMcN n
  | .hd, .loc .a => .movHdA
  | .hd, .loc .b => .movHdB
  | .hd, .loc .c => .movHdC
  | .hd, .loc .d => .movHdD
  | .hd, .loc .mb => .movHdMb
  | .hd, .loc .mc => .movHdMc
  | .hd, .loc .hd => .movHdHd
  | .hd, .imm n => .movHdN n

/-- The operations that write A (R261 to R350). -/
def Instr.ofAlu : AluOp → Src → Instr
  | .add, .loc .a => .addA
  | .add, .loc .b => .addB
  | .add, .loc .c => .addC
  | .add, .loc .d => .addD
  | .add, .loc .mb => .addMb
  | .add, .loc .mc => .addMc
  | .add, .loc .hd => .addHd
  | .add, .imm n => .addN n
  | .sub, .loc .a => .subA
  | .sub, .loc .b => .subB
  | .sub, .loc .c => .subC
  | .sub, .loc .d => .subD
  | .sub, .loc .mb => .subMb
  | .sub, .loc .mc => .subMc
  | .sub, .loc .hd => .subHd
  | .sub, .imm n => .subN n
  | .mul, .loc .a => .mulA
  | .mul, .loc .b => .mulB
  | .mul, .loc .c => .mulC
  | .mul, .loc .d => .mulD
  | .mul, .loc .mb => .mulMb
  | .mul, .loc .mc => .mulMc
  | .mul, .loc .hd => .mulHd
  | .mul, .imm n => .mulN n
  | .div, .loc .a => .divA
  | .div, .loc .b => .divB
  | .div, .loc .c => .divC
  | .div, .loc .d => .divD
  | .div, .loc .mb => .divMb
  | .div, .loc .mc => .divMc
  | .div, .loc .hd => .divHd
  | .div, .imm n => .divN n
  | .mod, .loc .a => .modA
  | .mod, .loc .b => .modB
  | .mod, .loc .c => .modC
  | .mod, .loc .d => .modD
  | .mod, .loc .mb => .modMb
  | .mod, .loc .mc => .modMc
  | .mod, .loc .hd => .modHd
  | .mod, .imm n => .modN n
  | .and, .loc .a => .andA
  | .and, .loc .b => .andB
  | .and, .loc .c => .andC
  | .and, .loc .d => .andD
  | .and, .loc .mb => .andMb
  | .and, .loc .mc => .andMc
  | .and, .loc .hd => .andHd
  | .and, .imm n => .andN n
  | .andNot, .loc .a => .andNotA
  | .andNot, .loc .b => .andNotB
  | .andNot, .loc .c => .andNotC
  | .andNot, .loc .d => .andNotD
  | .andNot, .loc .mb => .andNotMb
  | .andNot, .loc .mc => .andNotMc
  | .andNot, .loc .hd => .andNotHd
  | .andNot, .imm n => .andNotN n
  | .or, .loc .a => .orA
  | .or, .loc .b => .orB
  | .or, .loc .c => .orC
  | .or, .loc .d => .orD
  | .or, .loc .mb => .orMb
  | .or, .loc .mc => .orMc
  | .or, .loc .hd => .orHd
  | .or, .imm n => .orN n
  | .xor, .loc .a => .xorA
  | .xor, .loc .b => .xorB
  | .xor, .loc .c => .xorC
  | .xor, .loc .d => .xorD
  | .xor, .loc .mb => .xorMb
  | .xor, .loc .mc => .xorMc
  | .xor, .loc .hd => .xorHd
  | .xor, .imm n => .xorN n
  | .shl, .loc .a => .shlA
  | .shl, .loc .b => .shlB
  | .shl, .loc .c => .shlC
  | .shl, .loc .d => .shlD
  | .shl, .loc .mb => .shlMb
  | .shl, .loc .mc => .shlMc
  | .shl, .loc .hd => .shlHd
  | .shl, .imm n => .shlN n
  | .shr, .loc .a => .shrA
  | .shr, .loc .b => .shrB
  | .shr, .loc .c => .shrC
  | .shr, .loc .d => .shrD
  | .shr, .loc .mb => .shrMb
  | .shr, .loc .mc => .shrMc
  | .shr, .loc .hd => .shrHd
  | .shr, .imm n => .shrN n

/-- The comparisons (R351 to R374). -/
def Instr.ofCmp : CmpOp → Src → Instr
  | .eq, .loc .a => .eqA
  | .eq, .loc .b => .eqB
  | .eq, .loc .c => .eqC
  | .eq, .loc .d => .eqD
  | .eq, .loc .mb => .eqMb
  | .eq, .loc .mc => .eqMc
  | .eq, .loc .hd => .eqHd
  | .eq, .imm n => .eqN n
  | .lt, .loc .a => .ltA
  | .lt, .loc .b => .ltB
  | .lt, .loc .c => .ltC
  | .lt, .loc .d => .ltD
  | .lt, .loc .mb => .ltMb
  | .lt, .loc .mc => .ltMc
  | .lt, .loc .hd => .ltHd
  | .lt, .imm n => .ltN n
  | .gt, .loc .a => .gtA
  | .gt, .loc .b => .gtB
  | .gt, .loc .c => .gtC
  | .gt, .loc .d => .gtD
  | .gt, .loc .mb => .gtMb
  | .gt, .loc .mc => .gtMc
  | .gt, .loc .hd => .gtHd
  | .gt, .imm n => .gtN n

/-- The 40 undefined opcodes with their opcode values (R107). -/
def Instr.undefinedRows : List (Nat × Instr) :=
  [(5, .undef5), (6, .undef6), (13, .undef13), (14, .undef14), (21, .undef21), (22, .undef22), (29, .undef29), (30, .undef30),
   (37, .undef37), (38, .undef38), (45, .undef45), (46, .undef46), (53, .undef53), (54, .undef54), (58, .undef58), (61, .undef61),
   (62, .undef62), (120, .undef120), (121, .undef121), (122, .undef122), (123, .undef123), (124, .undef124), (125, .undef125), (126, .undef126),
   (127, .undef127), (240, .undef240), (241, .undef241), (242, .undef242), (243, .undef243), (244, .undef244), (245, .undef245), (246, .undef246),
   (247, .undef247), (248, .undef248), (249, .undef249), (250, .undef250), (251, .undef251), (252, .undef252), (253, .undef253), (254, .undef254)]

/-- A component descriptor with its argument bytes (R112). -/
inductive CompDesc where
  | const (c : Byte)
  | cm (sizebits limit : Byte)
  | icm (sizebits : Byte)
  | matchModel (sizebits bufbits : Byte)
  | avg (j k wt : Byte)
  | mix2 (sizebits j k rate mask : Byte)
  | mix (sizebits j m rate mask : Byte)
  | isse (sizebits j : Byte)
  | sse (sizebits j start limit : Byte)
  deriving DecidableEq, Repr

end Sys2Proof
end

