-- ==== Sys2Proof/Machine/Flags.lean ====
section
/-! DEFINITION. The condition flag F, the only flag (R22), and the results of the operations on A (R260, R310). -/

namespace Sys2Proof.Machine

/-- The value of F after a comparison of A with `v`, both unsigned (R351, R359, R367). -/
def cmpResult (k : CmpOp) (a v : Word) : Bool :=
  match k with
  | .eq => decide (a = v)
  | .lt => decide (a.toNat < v.toNat)
  | .gt => decide (v.toNat < a.toNat)

/-- The value of A after an operation on A and `v` (R261, R269, R277, R285, R293, R301, R311, R319, R327, R335, R343).
Division and remainder by 0 give 0; a shift count is reduced modulo 32. -/
def aluResult (k : AluOp) (a v : Word) : Word :=
  match k with
  | .add => a + v
  | .sub => a - v
  | .mul => a * v
  | .div => if v = 0 then 0 else BitVec.ofNat 32 (a.toNat / v.toNat)
  | .mod => if v = 0 then 0 else BitVec.ofNat 32 (a.toNat % v.toNat)
  | .and => a &&& v
  | .andNot => a &&& ~~~v
  | .or => a ||| v
  | .xor => a ^^^ v
  | .shl => a <<< (v.toNat % 32)
  | .shr => a >>> (v.toNat % 32)

/-- HASH and HASHD: `(value + operand + 512) * 773` modulo 2^32 (R184, R185). -/
def hashStep (value operand : Word) : Word := (value + operand + 512) * 773

end Sys2Proof.Machine
end

