-- ==== Sys2Proof/Decode.lean ====
section
/-! DEFINITION. Decoding, total on any bytes, and encoding: ZPAQL instructions (R100 to R108, R111) and component
descriptors (R112). -/

namespace Sys2Proof

/-- Why bytes do not decode. Every opcode value has a row (R107), so bytes can only run out. -/
inductive DecodeError where
  /-- The bytes end after `got` of the instruction's bytes: the next fetch has nothing to read (R172). -/
  | endsAfter (got : Nat)
  deriving DecidableEq, Repr

/-- An entry of the opcode map: the instruction a byte names, by its format (R100). -/
inductive OpEntry where
  | op1 (i : Instr)
  | op2 (mk : Byte → Instr)
  | op3 (mk : Byte → Byte → Instr)

/-! The opcode map by the five bits `g` and `y` (one definition each) and the three bits `z` (the place in the list)
(R101, R104 to R106). -/

/-- Opcodes 0 to 7. -/
def opRow0 : List OpEntry :=
  [.op1 .error, .op1 .incA, .op1 .decA, .op1 .notA, .op1 .zeroA, .op1 .undef5, .op1 .undef6, .op2 .ldA]
/-- Opcodes 8 to 15. -/
def opRow1 : List OpEntry :=
  [.op1 .swapB, .op1 .incB, .op1 .decB, .op1 .notB, .op1 .zeroB, .op1 .undef13, .op1 .undef14, .op2 .ldB]
/-- Opcodes 16 to 23. -/
def opRow2 : List OpEntry :=
  [.op1 .swapC, .op1 .incC, .op1 .decC, .op1 .notC, .op1 .zeroC, .op1 .undef21, .op1 .undef22, .op2 .ldC]
/-- Opcodes 24 to 31. -/
def opRow3 : List OpEntry :=
  [.op1 .swapD, .op1 .incD, .op1 .decD, .op1 .notD, .op1 .zeroD, .op1 .undef29, .op1 .undef30, .op2 .ldD]
/-- Opcodes 32 to 39. -/
def opRow4 : List OpEntry :=
  [.op1 .swapMb, .op1 .incMb, .op1 .decMb, .op1 .notMb, .op1 .zeroMb, .op1 .undef37, .op1 .undef38, .op2 .jt]
/-- Opcodes 40 to 47. -/
def opRow5 : List OpEntry :=
  [.op1 .swapMc, .op1 .incMc, .op1 .decMc, .op1 .notMc, .op1 .zeroMc, .op1 .undef45, .op1 .undef46, .op2 .jf]
/-- Opcodes 48 to 55. -/
def opRow6 : List OpEntry :=
  [.op1 .swapHd, .op1 .incHd, .op1 .decHd, .op1 .notHd, .op1 .zeroHd, .op1 .undef53, .op1 .undef54, .op2 .stA]
/-- Opcodes 56 to 63. -/
def opRow7 : List OpEntry :=
  [.op1 .halt, .op1 .out, .op1 .undef58, .op1 .hash, .op1 .hashd, .op1 .undef61, .op1 .undef62, .op2 .jmp]
/-- Opcodes 64 to 71. -/
def opRow8 : List OpEntry :=
  [.op1 .movAA, .op1 .movAB, .op1 .movAC, .op1 .movAD, .op1 .movAMb, .op1 .movAMc, .op1 .movAHd, .op2 .movAN]
/-- Opcodes 72 to 79. -/
def opRow9 : List OpEntry :=
  [.op1 .movBA, .op1 .movBB, .op1 .movBC, .op1 .movBD, .op1 .movBMb, .op1 .movBMc, .op1 .movBHd, .op2 .movBN]
/-- Opcodes 80 to 87. -/
def opRow10 : List OpEntry :=
  [.op1 .movCA, .op1 .movCB, .op1 .movCC, .op1 .movCD, .op1 .movCMb, .op1 .movCMc, .op1 .movCHd, .op2 .movCN]
/-- Opcodes 88 to 95. -/
def opRow11 : List OpEntry :=
  [.op1 .movDA, .op1 .movDB, .op1 .movDC, .op1 .movDD, .op1 .movDMb, .op1 .movDMc, .op1 .movDHd, .op2 .movDN]
/-- Opcodes 96 to 103. -/
def opRow12 : List OpEntry :=
  [.op1 .movMbA, .op1 .movMbB, .op1 .movMbC, .op1 .movMbD, .op1 .movMbMb, .op1 .movMbMc, .op1 .movMbHd, .op2 .movMbN]
/-- Opcodes 104 to 111. -/
def opRow13 : List OpEntry :=
  [.op1 .movMcA, .op1 .movMcB, .op1 .movMcC, .op1 .movMcD, .op1 .movMcMb, .op1 .movMcMc, .op1 .movMcHd, .op2 .movMcN]
/-- Opcodes 112 to 119. -/
def opRow14 : List OpEntry :=
  [.op1 .movHdA, .op1 .movHdB, .op1 .movHdC, .op1 .movHdD, .op1 .movHdMb, .op1 .movHdMc, .op1 .movHdHd, .op2 .movHdN]
/-- Opcodes 120 to 127. -/
def opRow15 : List OpEntry :=
  [.op1 .undef120, .op1 .undef121, .op1 .undef122, .op1 .undef123, .op1 .undef124, .op1 .undef125, .op1 .undef126, .op1 .undef127]
/-- Opcodes 128 to 135. -/
def opRow16 : List OpEntry :=
  [.op1 .addA, .op1 .addB, .op1 .addC, .op1 .addD, .op1 .addMb, .op1 .addMc, .op1 .addHd, .op2 .addN]
/-- Opcodes 136 to 143. -/
def opRow17 : List OpEntry :=
  [.op1 .subA, .op1 .subB, .op1 .subC, .op1 .subD, .op1 .subMb, .op1 .subMc, .op1 .subHd, .op2 .subN]
/-- Opcodes 144 to 151. -/
def opRow18 : List OpEntry :=
  [.op1 .mulA, .op1 .mulB, .op1 .mulC, .op1 .mulD, .op1 .mulMb, .op1 .mulMc, .op1 .mulHd, .op2 .mulN]
/-- Opcodes 152 to 159. -/
def opRow19 : List OpEntry :=
  [.op1 .divA, .op1 .divB, .op1 .divC, .op1 .divD, .op1 .divMb, .op1 .divMc, .op1 .divHd, .op2 .divN]
/-- Opcodes 160 to 167. -/
def opRow20 : List OpEntry :=
  [.op1 .modA, .op1 .modB, .op1 .modC, .op1 .modD, .op1 .modMb, .op1 .modMc, .op1 .modHd, .op2 .modN]
/-- Opcodes 168 to 175. -/
def opRow21 : List OpEntry :=
  [.op1 .andA, .op1 .andB, .op1 .andC, .op1 .andD, .op1 .andMb, .op1 .andMc, .op1 .andHd, .op2 .andN]
/-- Opcodes 176 to 183. -/
def opRow22 : List OpEntry :=
  [.op1 .andNotA, .op1 .andNotB, .op1 .andNotC, .op1 .andNotD, .op1 .andNotMb, .op1 .andNotMc, .op1 .andNotHd, .op2 .andNotN]
/-- Opcodes 184 to 191. -/
def opRow23 : List OpEntry :=
  [.op1 .orA, .op1 .orB, .op1 .orC, .op1 .orD, .op1 .orMb, .op1 .orMc, .op1 .orHd, .op2 .orN]
/-- Opcodes 192 to 199. -/
def opRow24 : List OpEntry :=
  [.op1 .xorA, .op1 .xorB, .op1 .xorC, .op1 .xorD, .op1 .xorMb, .op1 .xorMc, .op1 .xorHd, .op2 .xorN]
/-- Opcodes 200 to 207. -/
def opRow25 : List OpEntry :=
  [.op1 .shlA, .op1 .shlB, .op1 .shlC, .op1 .shlD, .op1 .shlMb, .op1 .shlMc, .op1 .shlHd, .op2 .shlN]
/-- Opcodes 208 to 215. -/
def opRow26 : List OpEntry :=
  [.op1 .shrA, .op1 .shrB, .op1 .shrC, .op1 .shrD, .op1 .shrMb, .op1 .shrMc, .op1 .shrHd, .op2 .shrN]
/-- Opcodes 216 to 223. -/
def opRow27 : List OpEntry :=
  [.op1 .eqA, .op1 .eqB, .op1 .eqC, .op1 .eqD, .op1 .eqMb, .op1 .eqMc, .op1 .eqHd, .op2 .eqN]
/-- Opcodes 224 to 231. -/
def opRow28 : List OpEntry :=
  [.op1 .ltA, .op1 .ltB, .op1 .ltC, .op1 .ltD, .op1 .ltMb, .op1 .ltMc, .op1 .ltHd, .op2 .ltN]
/-- Opcodes 232 to 239. -/
def opRow29 : List OpEntry :=
  [.op1 .gtA, .op1 .gtB, .op1 .gtC, .op1 .gtD, .op1 .gtMb, .op1 .gtMc, .op1 .gtHd, .op2 .gtN]
/-- Opcodes 240 to 247. -/
def opRow30 : List OpEntry :=
  [.op1 .undef240, .op1 .undef241, .op1 .undef242, .op1 .undef243, .op1 .undef244, .op1 .undef245, .op1 .undef246, .op1 .undef247]
/-- Opcodes 248 to 255. -/
def opRow31 : List OpEntry :=
  [.op1 .undef248, .op1 .undef249, .op1 .undef250, .op1 .undef251, .op1 .undef252, .op1 .undef253, .op1 .undef254, .op3 .lj]

/-- The opcode map, rows of eight (R104 to R107). -/
def opRows : List (List OpEntry) :=
  [opRow0, opRow1, opRow2, opRow3, opRow4, opRow5, opRow6, opRow7,
   opRow8, opRow9, opRow10, opRow11, opRow12, opRow13, opRow14, opRow15,
   opRow16, opRow17, opRow18, opRow19, opRow20, opRow21, opRow22, opRow23,
   opRow24, opRow25, opRow26, opRow27, opRow28, opRow29, opRow30, opRow31]

/-- The entry of an opcode byte. The list covers every value, so the default is never used (`opEntry_defined`). -/
def opEntry (op : Byte) : OpEntry :=
  (opRows.getD (op.toNat / 8) []).getD (op.toNat % 8) (.op1 .error)

/-- The length of an instruction in bytes, from its opcode byte alone (R102). For an undefined opcode this is the
disassembler's length: the machine fetches no operand byte of one. -/
def lengthOfOpcode (op : Byte) : Nat :=
  if op = 255#8 then 3 else if op.toNat % 8 = 7 then 2 else 1

/-- Decode the instruction at the front of `bytes` and answer it with the bytes after it. Only the operand bytes of a
defined instruction are consumed (R171, R186). -/
def decode : List Byte → Except DecodeError (Instr × List Byte)
  | [] => .error (.endsAfter 0)
  | op :: rest =>
    match opEntry op, rest with
    | .op1 i, _ => .ok (i, rest)
    | .op2 mk, n :: rest' => .ok (mk n, rest')
    | .op2 _, [] => .error (.endsAfter 1)
    | .op3 mk, nl :: nh :: rest' => .ok (mk nl nh, rest')
    | .op3 _, [_] => .error (.endsAfter 2)
    | .op3 _, [] => .error (.endsAfter 1)

/-- The bytes of an instruction, first byte first (R104 to R107, spec/opcode_table.json "encoding"). -/
def encode : Instr → List Byte
  | .error => [0x0#8]
  | .incA => [0x1#8]
  | .decA => [0x2#8]
  | .notA => [0x3#8]
  | .zeroA => [0x4#8]
  | .ldA n => [0x7#8, n]
  | .swapB => [0x8#8]
  | .incB => [0x9#8]
  | .decB => [0xa#8]
  | .notB => [0xb#8]
  | .zeroB => [0xc#8]
  | .ldB n => [0xf#8, n]
  | .swapC => [0x10#8]
  | .incC => [0x11#8]
  | .decC => [0x12#8]
  | .notC => [0x13#8]
  | .zeroC => [0x14#8]
  | .ldC n => [0x17#8, n]
  | .swapD => [0x18#8]
  | .incD => [0x19#8]
  | .decD => [0x1a#8]
  | .notD => [0x1b#8]
  | .zeroD => [0x1c#8]
  | .ldD n => [0x1f#8, n]
  | .swapMb => [0x20#8]
  | .incMb => [0x21#8]
  | .decMb => [0x22#8]
  | .notMb => [0x23#8]
  | .zeroMb => [0x24#8]
  | .jt n => [0x27#8, n]
  | .swapMc => [0x28#8]
  | .incMc => [0x29#8]
  | .decMc => [0x2a#8]
  | .notMc => [0x2b#8]
  | .zeroMc => [0x2c#8]
  | .jf n => [0x2f#8, n]
  | .swapHd => [0x30#8]
  | .incHd => [0x31#8]
  | .decHd => [0x32#8]
  | .notHd => [0x33#8]
  | .zeroHd => [0x34#8]
  | .stA n => [0x37#8, n]
  | .halt => [0x38#8]
  | .out => [0x39#8]
  | .hash => [0x3b#8]
  | .hashd => [0x3c#8]
  | .jmp n => [0x3f#8, n]
  | .movAA => [0x40#8]
  | .movAB => [0x41#8]
  | .movAC => [0x42#8]
  | .movAD => [0x43#8]
  | .movAMb => [0x44#8]
  | .movAMc => [0x45#8]
  | .movAHd => [0x46#8]
  | .movAN n => [0x47#8, n]
  | .movBA => [0x48#8]
  | .movBB => [0x49#8]
  | .movBC => [0x4a#8]
  | .movBD => [0x4b#8]
  | .movBMb => [0x4c#8]
  | .movBMc => [0x4d#8]
  | .movBHd => [0x4e#8]
  | .movBN n => [0x4f#8, n]
  | .movCA => [0x50#8]
  | .movCB => [0x51#8]
  | .movCC => [0x52#8]
  | .movCD => [0x53#8]
  | .movCMb => [0x54#8]
  | .movCMc => [0x55#8]
  | .movCHd => [0x56#8]
  | .movCN n => [0x57#8, n]
  | .movDA => [0x58#8]
  | .movDB => [0x59#8]
  | .movDC => [0x5a#8]
  | .movDD => [0x5b#8]
  | .movDMb => [0x5c#8]
  | .movDMc => [0x5d#8]
  | .movDHd => [0x5e#8]
  | .movDN n => [0x5f#8, n]
  | .movMbA => [0x60#8]
  | .movMbB => [0x61#8]
  | .movMbC => [0x62#8]
  | .movMbD => [0x63#8]
  | .movMbMb => [0x64#8]
  | .movMbMc => [0x65#8]
  | .movMbHd => [0x66#8]
  | .movMbN n => [0x67#8, n]
  | .movMcA => [0x68#8]
  | .movMcB => [0x69#8]
  | .movMcC => [0x6a#8]
  | .movMcD => [0x6b#8]
  | .movMcMb => [0x6c#8]
  | .movMcMc => [0x6d#8]
  | .movMcHd => [0x6e#8]
  | .movMcN n => [0x6f#8, n]
  | .movHdA => [0x70#8]
  | .movHdB => [0x71#8]
  | .movHdC => [0x72#8]
  | .movHdD => [0x73#8]
  | .movHdMb => [0x74#8]
  | .movHdMc => [0x75#8]
  | .movHdHd => [0x76#8]
  | .movHdN n => [0x77#8, n]
  | .addA => [0x80#8]
  | .addB => [0x81#8]
  | .addC => [0x82#8]
  | .addD => [0x83#8]
  | .addMb => [0x84#8]
  | .addMc => [0x85#8]
  | .addHd => [0x86#8]
  | .addN n => [0x87#8, n]
  | .subA => [0x88#8]
  | .subB => [0x89#8]
  | .subC => [0x8a#8]
  | .subD => [0x8b#8]
  | .subMb => [0x8c#8]
  | .subMc => [0x8d#8]
  | .subHd => [0x8e#8]
  | .subN n => [0x8f#8, n]
  | .mulA => [0x90#8]
  | .mulB => [0x91#8]
  | .mulC => [0x92#8]
  | .mulD => [0x93#8]
  | .mulMb => [0x94#8]
  | .mulMc => [0x95#8]
  | .mulHd => [0x96#8]
  | .mulN n => [0x97#8, n]
  | .divA => [0x98#8]
  | .divB => [0x99#8]
  | .divC => [0x9a#8]
  | .divD => [0x9b#8]
  | .divMb => [0x9c#8]
  | .divMc => [0x9d#8]
  | .divHd => [0x9e#8]
  | .divN n => [0x9f#8, n]
  | .modA => [0xa0#8]
  | .modB => [0xa1#8]
  | .modC => [0xa2#8]
  | .modD => [0xa3#8]
  | .modMb => [0xa4#8]
  | .modMc => [0xa5#8]
  | .modHd => [0xa6#8]
  | .modN n => [0xa7#8, n]
  | .andA => [0xa8#8]
  | .andB => [0xa9#8]
  | .andC => [0xaa#8]
  | .andD => [0xab#8]
  | .andMb => [0xac#8]
  | .andMc => [0xad#8]
  | .andHd => [0xae#8]
  | .andN n => [0xaf#8, n]
  | .andNotA => [0xb0#8]
  | .andNotB => [0xb1#8]
  | .andNotC => [0xb2#8]
  | .andNotD => [0xb3#8]
  | .andNotMb => [0xb4#8]
  | .andNotMc => [0xb5#8]
  | .andNotHd => [0xb6#8]
  | .andNotN n => [0xb7#8, n]
  | .orA => [0xb8#8]
  | .orB => [0xb9#8]
  | .orC => [0xba#8]
  | .orD => [0xbb#8]
  | .orMb => [0xbc#8]
  | .orMc => [0xbd#8]
  | .orHd => [0xbe#8]
  | .orN n => [0xbf#8, n]
  | .xorA => [0xc0#8]
  | .xorB => [0xc1#8]
  | .xorC => [0xc2#8]
  | .xorD => [0xc3#8]
  | .xorMb => [0xc4#8]
  | .xorMc => [0xc5#8]
  | .xorHd => [0xc6#8]
  | .xorN n => [0xc7#8, n]
  | .shlA => [0xc8#8]
  | .shlB => [0xc9#8]
  | .shlC => [0xca#8]
  | .shlD => [0xcb#8]
  | .shlMb => [0xcc#8]
  | .shlMc => [0xcd#8]
  | .shlHd => [0xce#8]
  | .shlN n => [0xcf#8, n]
  | .shrA => [0xd0#8]
  | .shrB => [0xd1#8]
  | .shrC => [0xd2#8]
  | .shrD => [0xd3#8]
  | .shrMb => [0xd4#8]
  | .shrMc => [0xd5#8]
  | .shrHd => [0xd6#8]
  | .shrN n => [0xd7#8, n]
  | .eqA => [0xd8#8]
  | .eqB => [0xd9#8]
  | .eqC => [0xda#8]
  | .eqD => [0xdb#8]
  | .eqMb => [0xdc#8]
  | .eqMc => [0xdd#8]
  | .eqHd => [0xde#8]
  | .eqN n => [0xdf#8, n]
  | .ltA => [0xe0#8]
  | .ltB => [0xe1#8]
  | .ltC => [0xe2#8]
  | .ltD => [0xe3#8]
  | .ltMb => [0xe4#8]
  | .ltMc => [0xe5#8]
  | .ltHd => [0xe6#8]
  | .ltN n => [0xe7#8, n]
  | .gtA => [0xe8#8]
  | .gtB => [0xe9#8]
  | .gtC => [0xea#8]
  | .gtD => [0xeb#8]
  | .gtMb => [0xec#8]
  | .gtMc => [0xed#8]
  | .gtHd => [0xee#8]
  | .gtN n => [0xef#8, n]
  | .lj nl nh => [0xff#8, nl, nh]
  | .undef5 => [0x5#8]
  | .undef6 => [0x6#8]
  | .undef13 => [0xd#8]
  | .undef14 => [0xe#8]
  | .undef21 => [0x15#8]
  | .undef22 => [0x16#8]
  | .undef29 => [0x1d#8]
  | .undef30 => [0x1e#8]
  | .undef37 => [0x25#8]
  | .undef38 => [0x26#8]
  | .undef45 => [0x2d#8]
  | .undef46 => [0x2e#8]
  | .undef53 => [0x35#8]
  | .undef54 => [0x36#8]
  | .undef58 => [0x3a#8]
  | .undef61 => [0x3d#8]
  | .undef62 => [0x3e#8]
  | .undef120 => [0x78#8]
  | .undef121 => [0x79#8]
  | .undef122 => [0x7a#8]
  | .undef123 => [0x7b#8]
  | .undef124 => [0x7c#8]
  | .undef125 => [0x7d#8]
  | .undef126 => [0x7e#8]
  | .undef127 => [0x7f#8]
  | .undef240 => [0xf0#8]
  | .undef241 => [0xf1#8]
  | .undef242 => [0xf2#8]
  | .undef243 => [0xf3#8]
  | .undef244 => [0xf4#8]
  | .undef245 => [0xf5#8]
  | .undef246 => [0xf6#8]
  | .undef247 => [0xf7#8]
  | .undef248 => [0xf8#8]
  | .undef249 => [0xf9#8]
  | .undef250 => [0xfa#8]
  | .undef251 => [0xfb#8]
  | .undef252 => [0xfc#8]
  | .undef253 => [0xfd#8]
  | .undef254 => [0xfe#8]

/-- The bytes of a sequence of instructions. -/
def encodeProgram (is : List Instr) : List Byte := is.flatMap encode

/-- Decode a whole byte sequence, instruction after instruction, `fuel` bounding how many. -/
def decodeProgram : Nat → List Byte → Except DecodeError (List Instr)
  | _, [] => .ok []
  | 0, _ :: _ => .ok []
  | fuel + 1, b :: bs =>
    match decode (b :: bs) with
    | .error e => .error e
    | .ok (i, rest) =>
      match decodeProgram fuel rest with
      | .error e => .error e
      | .ok is => .ok (i :: is)

/-- The little-endian value of two bytes, low byte first (R78). -/
def le16 (lo hi : Byte) : Nat := lo.toNat + 256 * hi.toNat

/-- The signed value of a short jump's operand byte, `sext_8(N)` (R6, R103). -/
def sext8 (n : Byte) : Int := if n.toNat < 128 then (n.toNat : Int) else (n.toNat : Int) - 256

/-- The three bytes, the longest an instruction has, of the `nbits` low bits of `w`: the first byte in bits 7:0. -/
def wordBytes (nbits w : Nat) : List Byte :=
  [BitVec.ofNat 8 (w % 2 ^ nbits), BitVec.ofNat 8 (w % 2 ^ nbits / 256), BitVec.ofNat 8 (w % 2 ^ nbits / 65536)]

/-- The instruction the decoder reads from an instruction whose bits are `w`, its first byte in bits 7:0, the next in
15:8, the third in 23:16; bits at and above `nbits` are 0 (R100, R101). -/
def decodeTableWord (nbits w : Nat) : Option Instr :=
  match decode (wordBytes nbits w) with
  | .ok (i, _) => some i
  | .error _ => none

/-- Why a component descriptor does not parse (R532). -/
inductive DescError where
  /-- The bytes end before the descriptor is complete. -/
  | truncated
  /-- The tag is not 1 to 9: "unknown component type" (R112). `rest` are the bytes from it on. -/
  | unknownTag (rest : List Byte)
  deriving DecidableEq, Repr

/-- Parse the component descriptor at the front of `bytes` (R112). -/
def decodeDesc : List Byte → Except DescError (CompDesc × List Byte)
  | [] => .error .truncated
  | tag :: rest =>
    match tag.toNat, rest with
    | 1, c :: r => .ok (.const c, r)
    | 2, s :: l :: r => .ok (.cm s l, r)
    | 3, s :: r => .ok (.icm s, r)
    | 4, s :: b :: r => .ok (.matchModel s b, r)
    | 5, j :: k :: wt :: r => .ok (.avg j k wt, r)
    | 6, s :: j :: k :: rate :: mask :: r => .ok (.mix2 s j k rate mask, r)
    | 7, s :: j :: m :: rate :: mask :: r => .ok (.mix s j m rate mask, r)
    | 8, s :: j :: r => .ok (.isse s j, r)
    | 9, s :: j :: start :: limit :: r => .ok (.sse s j start limit, r)
    | t, _ => if 1 ≤ t ∧ t ≤ 9 then .error .truncated else .error (.unknownTag (tag :: rest))

/-- The bytes of a component descriptor (R112). -/
def encodeDesc : CompDesc → List Byte
  | .const c => [1#8, c]
  | .cm s l => [2#8, s, l]
  | .icm s => [3#8, s]
  | .matchModel s b => [4#8, s, b]
  | .avg j k wt => [5#8, j, k, wt]
  | .mix2 s j k rate mask => [6#8, s, j, k, rate, mask]
  | .mix s j m rate mask => [7#8, s, j, m, rate, mask]
  | .isse s j => [8#8, s, j]
  | .sse s j start limit => [9#8, s, j, start, limit]

/-- Parse `n` descriptors, one after another. -/
def decodeDescs : Nat → List Byte → Except DescError (List CompDesc × List Byte)
  | 0, bytes => .ok ([], bytes)
  | n + 1, bytes =>
    match decodeDesc bytes with
    | .error e => .error e
    | .ok (d, rest) =>
      match decodeDescs n rest with
      | .error e => .error e
      | .ok (ds, rest') => .ok (d :: ds, rest')

end Sys2Proof
end

