-- ==== Sys2Proof/Config.lean ====
section
/-! DEFINITION. The parameters an implementation fixes (R5). The spec leaves no result open (R574), so there is no free
value here. -/

namespace Sys2Proof

/-- The length of the guard gap, GAP (R5, R73). -/
def guardGap : Nat := 128

/-- `cend'` of a PCOMP program store (R76). -/
def pcompCend : Nat := 8

/-- The size caps: `MAXLOG` for `hh hm ph pm` and one cap per component type for its size arguments (R5). They are OPEN
parameters fixed before `load` (D9); State holds one `Caps` and every statement holds for all values of it. -/
structure Caps where
  maxLog : Nat
  maxCm : Nat
  maxIcm : Nat
  maxMatch : Nat
  maxMix : Nat
  maxIsse : Nat
  maxSse : Nat
  deriving DecidableEq, Repr

/-- The reference implementation's caps, which R5 and D9 name. PRESUMED (log 4). -/
def referenceCaps : Caps :=
  { maxLog := 32, maxCm := 32, maxIcm := 26, maxMatch := 32, maxMix := 32, maxIsse := 32, maxSse := 32 }

end Sys2Proof
end

