-- ==== Sys2Proof/Machine/State.lean ====
section
/-! DEFINITION. The state of one ZPAQ core and of its interface to the host, as plain data (R20 to R49), the reasons a
step can stop, and the state after reset. -/

namespace Sys2Proof.Machine

/-- Which ZPAQL instance: the one of the predictor or the one of the PostProcessor (R20). -/
inductive Inst where
  | hcomp | pcomp
  deriving DecidableEq, Repr

/-- An encoding or a decoding core (R470, R501). -/
inductive Role where
  | encoding | decoding
  deriving DecidableEq, Repr

/-- The symbol a `decompress` returns: a byte or the end of the segment (R470). -/
inductive Symbol where
  | byte (c : Byte)
  | eos
  deriving DecidableEq, Repr

/-- The 21 causes of a fault with the information each records (R530 to R534). -/
inductive CoreFault where
  /-- EXEC_ERROR_OPCODE: opcode 0 executed at `pc0` (R131). -/
  | execErrorOpcode (inst : Inst) (pc0 : Nat)
  /-- EXEC_UNDEFINED_OPCODE: an undefined opcode executed at `pc0` (R186). -/
  | execUndefinedOpcode (inst : Inst) (pc0 : Nat) (op : Byte)
  /-- EXEC_FETCH_BOUNDS: a fetch at `addr`, outside `[hbegin, hend)` (R77, R172). -/
  | execFetchBounds (inst : Inst) (addr : Nat)
  /-- EXEC_LJ_TARGET: `LJ` at `pc0` to a `target` not below `hend` (R181). -/
  | execLjTarget (inst : Inst) (pc0 target : Nat)
  /-- FMT_HEADER_TRUNCATED (R74). -/
  | fmtHeaderTruncated
  /-- FMT_COMP_TAG (R74, R112). -/
  | fmtCompTag
  /-- FMT_COMP_END (R74). -/
  | fmtCompEnd
  /-- FMT_HCOMP_END (R74). -/
  | fmtHcompEnd
  /-- FMT_CORRUPT (R477). -/
  | fmtCorrupt
  /-- FMT_EOF (R483). -/
  | fmtEof
  /-- FMT_EOS_CURR (R482). -/
  | fmtEosCurr
  /-- FMT_PP_TYPE (R511). -/
  | fmtPpType
  /-- FMT_PP_EOS (R511, R513, R514). -/
  | fmtPpEos
  /-- FMT_PP_EMPTY (R513). -/
  | fmtPpEmpty
  /-- RES_HSIZE with the offending byte (R411). -/
  | resHsize (size : Byte)
  /-- RES_COMP_SIZE with the offending byte (R412 to R419). -/
  | resCompSize (size : Byte)
  /-- RES_PCOMP_SIZE with the offending byte (R514). -/
  | resPcompSize (size : Byte)
  /-- MODEL_FORWARD_REF of component `i` (R415 to R419). -/
  | modelForwardRef (i : Nat)
  /-- MODEL_MIX_RANGE of component `i` (R417). -/
  | modelMixRange (i : Nat)
  /-- MODEL_SSE_START of component `i` (R419). -/
  | modelSseStart (i : Nat)
  /-- MODEL_NO_COMPONENTS (R411). -/
  | modelNoComponents
  deriving DecidableEq, Repr

/-- The fault classes (R530). -/
inductive FaultClass where
  | executionError | formatError | resourceError | modelError
  deriving DecidableEq, Repr

/-- Why a step stops. Taking a fault of the core is no stop: it is a next state with the latch set (R536). -/
inductive Fault where
  /-- Raised by `step` alone, on a core whose latch holds `f` when the host has requested nothing more: the core accepts
  no operation but `load` (R536) and none comes. Safe: the core executes nothing in this state (R537). -/
  | latched (f : CoreFault)
  deriving DecidableEq, Repr

/-- Why a step is refused. -/
inductive Refusal where
  /-- Raised by an arm of `exec` whose instruction has no meaning yet; no arm is left so. Safe: nothing happens. -/
  | notModelled (mnemonic : String)
  deriving DecidableEq, Repr

/-- One ZPAQL instance (R21 to R26) with its program store and program range (R27, R73, R76). `r`, `m`, `h` and `prog`
list the elements that are not 0, addresses rising; an unlisted element reads 0, its reset value (R49). -/
structure Zpaql where
  a : Word
  b : Word
  c : Word
  d : Word
  f : Bool
  pc : Nat
  r : List (Nat × Word)
  m : List Host.Cell
  h : List (Nat × Word)
  /-- log2 of the length of M (`hm` or `pm`) -/
  mbits : Nat
  /-- log2 of the length of H (`hh` or `ph`) -/
  hbits : Nat
  prog : List Host.Cell
  cend : Nat
  hbegin : Nat
  hend : Nat
  deriving DecidableEq, Repr

/-- A component record (R33): the descriptor, which is configuration, and the state. The tables list the cells that
differ from their reset value (R35 to R42). Signed weights are two's complement cells of `cm` (R40, R41). `cxt` is 32 bits
wide (R33) and so is `b`, the offset of a MATCH (R37); `a`, `c` and `limit`, to which R33 gives no width, are natural
numbers. `cxtTop` is the model's own: what the index that R39 or R40 puts in `cxt` has above 32 bits, 0 wherever it fits, so
that the index is exact. DEDUCED (log 15). -/
structure Component where
  desc : CompDesc
  cxt : Word
  cxtTop : Nat
  a : Nat
  b : Word
  c : Nat
  limit : Nat
  cm : List (Nat × Word)
  ht : List Host.Cell
  a16 : List (Nat × BitVec 16)
  deriving DecidableEq, Repr

/-- The predictor (R30 to R33). `c8` has 9 bits: it holds 256 and more while HCOMP runs (R462, log 11). `h` and `p` list
the entries that are not 0. -/
structure Predictor where
  c8 : BitVec 9
  hmap4 : BitVec 9
  h : List (Nat × Word)
  p : List (Nat × Int)
  comps : List Component
  deriving DecidableEq, Repr

/-- The coder (R43, R44). -/
structure Coder where
  low : Word
  high : Word
  curr : Word
  deriving DecidableEq, Repr

/-- The header bytes 0 to 6 (R73). -/
structure Header where
  hsize : BitVec 16
  hh : Byte
  hm : Byte
  ph : Byte
  pm : Byte
  n : Byte
  deriving DecidableEq, Repr

/-- The PostProcessor's states 0 to 5 (R511): INIT, PASS, the two length bytes, the program, RUNNING. -/
inductive PpState where
  | init | pass | lenLow | lenHigh | program | running
  deriving DecidableEq, Repr

/-- The PostProcessor's own state (R510); its program store is the PCOMP instance's. An encoding core has no PostProcessor
(R500): the record stands in it at its reset values. DESIGN CHOICE (log 21). -/
structure PostProc where
  state : PpState
  len : BitVec 16
  cnt : Nat
  deriving DecidableEq, Repr

/-- What an operation returns to the host (R501, R536). -/
inductive Report where
  /-- `load` succeeded (R560). -/
  | loaded
  /-- `compress` of a byte or of EOS has returned (R478). -/
  | compressed
  /-- `step` processed a byte (R501). -/
  | byteProcessed
  /-- `step` met the end of the segment (R503). -/
  | segmentEnded
  /-- The operation ended with a fault (R536). -/
  | faulted (f : CoreFault)
  /-- The operation was requested out of order and changed no state (R504). -/
  | refused
  deriving DecidableEq, Repr

/-- What the host can request next (R501), and its two acts that are no operation of the core (R27, R506). -/
inductive Request where
  | load (role : Role) (header : List Byte)
  | compress (c : Byte)
  | compressEos
  | step
  /-- the Reader now delivers these bytes and then the EOF sentinel (R520) -/
  | setReader (bytes : List Byte)
  /-- attach or detach the output sink and the checksum sink (R27) -/
  | setSinks (out sum : Bool)
  deriving DecidableEq, Repr

/-- What an operation in progress does next (R478, R480, R503); each is done in one step of the model (log 6). -/
inductive Task where
  /-- `compress(c)`: code the flag *a byte follows* -/
  | encodeFlag (c : Byte)
  /-- `compress(c)`: code the `left` low bits of `c`, the highest of them first -/
  | encodeBits (c : Byte) (left : Nat)
  /-- `compress(EOS)`: code the end-of-segment flag -/
  | encodeEos
  /-- `decompress()`: fill `curr` if it is 0 and decode the flag -/
  | decodeFlag
  /-- `decompress()`: the loop of R480 with its variable `c` -/
  | decodeBits (c : BitVec 9)
  /-- `write(sym)` of the PostProcessor -/
  | write (sym : Symbol)
  /-- return to the host -/
  | finish (r : Report)
  deriving DecidableEq, Repr

/-- The activity of the core (R500, R83): one at a time. -/
inductive Phase where
  /-- no operation in progress -/
  | idle
  /-- a unit other than the interpreter acts next -/
  | work (t : Task)
  /-- a `run` is in progress; when it has returned, `next` follows (R170) -/
  | run (next : Task)
  /-- the `run` has executed HALT and returns to its caller (R182) -/
  | halted (next : Task)
  deriving DecidableEq, Repr

structure State where
  /-- the HCOMP instance (R20 a) -/
  hcomp : Zpaql
  /-- the PCOMP instance (R510, log 12) -/
  pcomp : Zpaql
  pred : Predictor
  coder : Coder
  pp : PostProc
  /-- the fault latch (R28) -/
  fault : Option CoreFault
  /-- the header bytes of the loaded block (R73) -/
  header : Header
  role : Role
  /-- the core has had a successful `load` (R560) -/
  loaded : Bool
  caps : Caps
  /-- the instance the interpreter executes for -/
  inst : Inst
  phase : Phase
  /-- an output sink is attached to the PCOMP instance (R27) -/
  outSink : Bool
  /-- a checksum sink is attached to the PCOMP instance (R27) -/
  sumSink : Bool
  /-- the bytes the Reader will deliver before the EOF sentinel (R520) -/
  reader : List Byte
  /-- the bytes put to the Writer, oldest first (R520) -/
  writer : List Byte
  /-- the bytes put to the output sink, oldest first (R183, R521) -/
  output : List Byte
  /-- the bytes put to the checksum sink, oldest first (R521) -/
  checksum : List Byte
  /-- what the host requests next, in order (R501) -/
  requests : List Request
  /-- what the operations returned, oldest first (R501) -/
  reports : List Report
  deriving DecidableEq, Repr

/-- The outcome of a step of this machine. -/
abbrev StepOutcome := Host.Outcome State Fault Refusal

/-- A ZPAQL instance with every register and element 0 (R561, R514) and no program. -/
def Zpaql.blank : Zpaql :=
  { a := 0, b := 0, c := 0, d := 0, f := false, pc := 0, r := [], m := [], h := [], mbits := 0, hbits := 0
    prog := [], cend := 0, hbegin := 0, hend := 0 }

/-- The predictor before its components are built: `c8 = hmap4 = 1`, `h` and `p` all 0 (R562). -/
def Predictor.blank : Predictor := { c8 := 1, hmap4 := 1, h := [], p := [], comps := [] }

/-- The coder's reset values (R49, R564). -/
def Coder.reset : Coder := { low := 1, high := 0xFFFFFFFF, curr := 0 }

/-- The PostProcessor's reset values (R565). -/
def PostProc.reset : PostProc := { state := .init, len := 0, cnt := 0 }

def Header.blank : Header := { hsize := 0, hh := 0, hm := 0, ph := 0, pm := 0, n := 0 }

/-- The core before its first `load` (R560): unloaded, no operation in progress, nothing requested. Every register that
R49 gives a value holds it; the rest is log 1 and log 4. -/
def State.reset : State :=
  { hcomp := .blank, pcomp := .blank, pred := .blank, coder := .reset, pp := .reset, fault := none
    header := .blank, role := .encoding, loaded := false, caps := referenceCaps, inst := .hcomp, phase := .idle
    outSink := false, sumSink := false, reader := [], writer := [], output := [], checksum := []
    requests := [], reports := [] }

end Sys2Proof.Machine
end

