-- ==== Sys2Proof/Machine/Ops.lean ====
section
/-! DEFINITION. The named operations over memory and registers, taking a fault (R536), starting a `run` (R170) and the
fetch (R172). -/

namespace Sys2Proof.Machine

/-! ### Sparse memory: one canonical form -/

/-- Read element `k`: the listed value, else the value `dflt` an unlisted element reads as. -/
def peek {α : Type} (dflt : α) : List (Nat × α) → Nat → α
  | [], _ => dflt
  | e :: rest, k => if e.1 = k then e.2 else peek dflt rest k

/-- Insert an entry before the first larger address. -/
def insertAt {α : Type} (k : Nat) (v : α) : List (Nat × α) → List (Nat × α)
  | [] => [(k, v)]
  | e :: rest => if k < e.1 then (k, v) :: e :: rest else e :: insertAt k v rest

/-- Write element `k`; `dflt` is the value element `k` reads as when unlisted, and writing it unlists the element. -/
def poke {α : Type} [DecidableEq α] (dflt : α) (mem : List (Nat × α)) (k : Nat) (v : α) : List (Nat × α) :=
  if v = dflt then mem.filter (fun e => e.1 != k) else insertAt k v (mem.filter (fun e => e.1 != k))

/-- The canonical form of a memory of `size` elements whose element `k` reads as `dflt k` when unlisted: addresses
strictly rising and in range, no entry equal to what an unlisted element reads as. -/
abbrev MemWf {α : Type} (dflt : Nat → α) (size : Nat) (mem : List (Nat × α)) : Prop :=
  mem.Pairwise (fun x y => x.1 < y.1) ∧ ∀ e ∈ mem, e.1 < size ∧ e.2 ≠ dflt e.1

/-- Write bytes at consecutive addresses of a byte memory that reads 0 where unlisted. -/
def pokeBytes (mem : List Host.Cell) : Nat → List Byte → List Host.Cell
  | _, [] => mem
  | k, b :: bs => pokeBytes (poke 0 mem k b) (k + 1) bs

/-! ### The four spaces of an instance (R70) -/

/-- `MSIZE = 2^mbits` (R25). -/
def Zpaql.msize (z : Zpaql) : Nat := 2 ^ z.mbits

/-- `HSIZE = 2^hbits` (R26). -/
def Zpaql.hsize (z : Zpaql) : Nat := 2 ^ z.hbits

/-- `r mod MSIZE`, the only way a register indexes M (R71). -/
def Zpaql.mIndex (z : Zpaql) (r : Word) : Nat := r.toNat % z.msize

/-- `r mod HSIZE`, the only way a register indexes H (R72). -/
def Zpaql.hIndex (z : Zpaql) (r : Word) : Nat := r.toNat % z.hsize

def Zpaql.readM (z : Zpaql) (k : Nat) : Byte := peek 0 z.m k
def Zpaql.writeM (z : Zpaql) (k : Nat) (v : Byte) : Zpaql := { z with m := poke 0 z.m k v }
def Zpaql.readH (z : Zpaql) (k : Nat) : Word := peek 0 z.h k
def Zpaql.writeH (z : Zpaql) (k : Nat) (v : Word) : Zpaql := { z with h := poke 0 z.h k v }
def Zpaql.readR (z : Zpaql) (n : Byte) : Word := peek 0 z.r n.toNat
def Zpaql.writeR (z : Zpaql) (n : Byte) (v : Word) : Zpaql := { z with r := poke 0 z.r n.toNat v }
def Zpaql.readP (z : Zpaql) (k : Nat) : Byte := peek 0 z.prog k

/-- PC moves past `k` bytes. -/
def Zpaql.advance (k : Nat) (z : Zpaql) : Zpaql := { z with pc := z.pc + k }

/-- `hbegin <= k < hend`: the only addresses a fetch may read (R77). -/
def Zpaql.inProgram (z : Zpaql) (k : Nat) : Bool := decide (z.hbegin ≤ k) && decide (k < z.hend)

/-! ### The executing instance -/

/-- The instance that executes. -/
def State.vm (s : State) : Zpaql :=
  match s.inst with
  | .hcomp => s.hcomp
  | .pcomp => s.pcomp

/-- Replace the instance that executes. -/
def State.setVm (s : State) (z : Zpaql) : State :=
  match s.inst with
  | .hcomp => { s with hcomp := z }
  | .pcomp => { s with pcomp := z }

/-- Change the instance that executes. -/
def State.onVm (s : State) (g : Zpaql → Zpaql) : State := s.setVm (g s.vm)

/-! ### Faults -/

/-- `raise f`, TAKING A FAULT (R536): the operation in progress ends, the latch is set, the operation returns the fault
to the host; nothing else changes. There is no return from a fault (R537): only `load` clears the latch. -/
def State.raise (f : CoreFault) (s : State) : State :=
  { s with fault := some f, phase := .idle, reports := s.reports ++ [.faulted f] }

/-- The class a cause is reported under (R530 to R534). -/
def CoreFault.faultClass : CoreFault → FaultClass
  | .execErrorOpcode .. => .executionError
  | .execUndefinedOpcode .. => .executionError
  | .execFetchBounds .. => .executionError
  | .execLjTarget .. => .executionError
  | .fmtHeaderTruncated => .formatError
  | .fmtCompTag => .formatError
  | .fmtCompEnd => .formatError
  | .fmtHcompEnd => .formatError
  | .fmtCorrupt => .formatError
  | .fmtEof => .formatError
  | .fmtEosCurr => .formatError
  | .fmtPpType => .formatError
  | .fmtPpEos => .formatError
  | .fmtPpEmpty => .formatError
  | .resHsize _ => .resourceError
  | .resCompSize _ => .resourceError
  | .resPcompSize _ => .resourceError
  | .modelForwardRef _ => .modelError
  | .modelMixRange _ => .modelError
  | .modelSseStart _ => .modelError
  | .modelNoComponents => .modelError

/-! ### `run` -/

/-- Start `run(input)` of an instance (R170): A and PC are set and nothing else of the instance; `next` follows when it
has returned. -/
def State.startRun (u : Inst) (input : Word) (next : Task) (s : State) : State :=
  let s := { s with inst := u, phase := .run next }
  s.onVm fun z => { z with a := input, pc := z.hbegin }

/-- HALT: the `run` in progress has ended and returns to its caller (R170, R182). -/
def Phase.afterHalt : Phase → Phase
  | .run next => .halted next
  | p => p

/-! ### The fetch (R172) -/

/-- The program bytes at `k, k+1, …`, at most `count`, up to the first address outside the program. -/
def Zpaql.fetchFrom (z : Zpaql) : Nat → Nat → List Byte
  | 0, _ => []
  | count + 1, k => if z.inProgram k then z.readP k :: z.fetchFrom count (k + 1) else []

/-- The bytes the fetches of one instruction can read: at most three (R100). -/
def State.window (s : State) : List Byte := s.vm.fetchFrom 3 s.vm.pc

/-- Fetch and decode the instruction at PC. PC is not moved: the meanings move it. -/
def State.fetch (s : State) : Except DecodeError Instr :=
  match decode s.window with
  | .ok (i, _) => .ok i
  | .error e => .error e

/-- The fetch fails after `got` bytes of an instruction: PC has advanced over those and EXEC_FETCH_BOUNDS is raised with
the address of the failing fetch (R77, R171, R531). -/
def State.raiseFetch (e : DecodeError) (s : State) : State :=
  match e with
  | .endsAfter got => (s.onVm (·.advance got)).raise (.execFetchBounds s.inst (s.vm.pc + got))

/-- Place an instruction word at PC of the executing instance, inside its program range, and have a `run` in progress:
it stands for the `load` of a program (log 2). -/
def State.placeWord (s : State) (nbits w : Nat) : State :=
  let s := s.onVm fun z =>
    { z with prog := pokeBytes z.prog z.pc (wordBytes nbits w), hbegin := min z.hbegin z.pc
             hend := max z.hend (z.pc + 3) }
  { s with fault := none
           phase := match s.phase with
             | .run next => .run next
             | _ => .run (.finish .compressed) }

end Sys2Proof.Machine
end

