-- ==== Sys2Proof/Machine/Operands.lean ====
section
/-! DEFINITION. Every operand form (R130, R200, R260) and the operations the meanings share. Each operation is entered
with PC at the opcode byte and leaves PC after the instruction's bytes, unless it jumps. -/

namespace Sys2Proof.Machine

/-- The value of a location, a byte zero-extended (R130, R200). -/
def Zpaql.readLoc (z : Zpaql) : Loc → Word
  | .a => z.a
  | .b => z.b
  | .c => z.c
  | .d => z.d
  | .mb => (z.readM (z.mIndex z.b)).setWidth 32
  | .mc => (z.readM (z.mIndex z.c)).setWidth 32
  | .hd => z.readH (z.hIndex z.d)

/-- Write a location, the value reduced to its width (R130, R200). -/
def Zpaql.writeLoc (z : Zpaql) (x : Loc) (v : Word) : Zpaql :=
  match x with
  | .a => { z with a := v }
  | .b => { z with b := v }
  | .c => { z with c := v }
  | .d => { z with d := v }
  | .mb => z.writeM (z.mIndex z.b) (v.setWidth 8)
  | .mc => z.writeM (z.mIndex z.c) (v.setWidth 8)
  | .hd => z.writeH (z.hIndex z.d) v

/-- The value of a source: a location, or the operand byte zero-extended (R103, R200). -/
def Zpaql.readSrc (z : Zpaql) : Src → Word
  | .loc x => z.readLoc x
  | .imm n => n.setWidth 32

/-- The bytes of an instruction with this source: the operand byte is the second (R200). -/
def srcLength : Src → Nat
  | .loc _ => 1
  | .imm _ => 2

/-- The instruction changes the executing instance by `g` and has `len` bytes. -/
def State.complete (s : State) (len : Nat) (g : Zpaql → Zpaql) : State := s.onVm fun z => (g z).advance len

/-! ### One-operand operations (R130) -/

/-- `X++` (R138 to R144). -/
def increment (x : Loc) (s : State) : StepOutcome := .next (s.complete 1 fun z => z.writeLoc x (z.readLoc x + 1))

/-- `X--` (R145 to R151). -/
def decrement (x : Loc) (s : State) : StepOutcome := .next (s.complete 1 fun z => z.writeLoc x (z.readLoc x - 1))

/-- `X!` (R152 to R158). -/
def complement (x : Loc) (s : State) : StepOutcome := .next (s.complete 1 fun z => z.writeLoc x (~~~z.readLoc x))

/-- `X=0` (R159 to R165). -/
def clear (x : Loc) (s : State) : StepOutcome := .next (s.complete 1 fun z => z.writeLoc x 0)

/-- `X<>A` for a 32-bit location (R132 to R134, R137): both values are read before either is written. -/
def Zpaql.swapWord (z : Zpaql) (x : Loc) : Zpaql := { z.writeLoc x z.a with a := z.readLoc x }

/-- `X<>A` for a byte of M: the low byte of A and the byte change places, bits 31:8 of A stay (R135, R136). -/
def Zpaql.swapByte (z : Zpaql) (x : Loc) : Zpaql :=
  { z.writeLoc x z.a with a := (z.a &&& 0xFFFFFF00) ||| z.readLoc x }

def swapWord (x : Loc) (s : State) : StepOutcome := .next (s.complete 1 (·.swapWord x))
def swapByte (x : Loc) (s : State) : StepOutcome := .next (s.complete 1 (·.swapByte x))

/-! ### Assignments, operations on A, comparisons -/

/-- `X=S`: the source is read completely before the destination is written (R200). -/
def assign (x : Loc) (src : Src) (s : State) : StepOutcome :=
  .next (s.complete (srcLength src) fun z => z.writeLoc x (z.readSrc src))

/-- An operation that writes A (R260). -/
def operate (k : AluOp) (src : Src) (s : State) : StepOutcome :=
  .next (s.complete (srcLength src) fun z => { z with a := aluResult k z.a (z.readSrc src) })

/-- A comparison, which writes F (R310). -/
def compare (k : CmpOp) (src : Src) (s : State) : StepOutcome :=
  .next (s.complete (srcLength src) fun z => { z with f := cmpResult k z.a (z.readSrc src) })

/-! ### Register file, jumps, and the rest of group 0 -/

/-- `X=R N` for a register X (R173 to R176). -/
def loadReg (x : Loc) (n : Byte) (s : State) : StepOutcome :=
  .next (s.complete 2 fun z => z.writeLoc x (z.readR n))

/-- `R=A N` (R177). -/
def storeReg (n : Byte) (s : State) : StepOutcome := .next (s.complete 2 fun z => z.writeR n z.a)

/-- The target of a short jump at `pc0`: `pc0 + 2 + sext_8(N)` (R103). PC is a natural number: a target below 0, which no
instruction at `pc0 >= 126` has, is 0 (log 10). -/
def jumpTarget (pc0 : Nat) (n : Byte) : Nat := ((pc0 : Int) + 2 + sext8 n).toNat

/-- A short jump, taken or not (R178 to R180); a target outside the program does not fault here (R77). -/
def jumpIf (taken : Bool) (n : Byte) (s : State) : StepOutcome :=
  .next (s.onVm fun z => { z with pc := if taken then jumpTarget z.pc n else z.pc + 2 })

/-- `LJ NL NH` (R181): the target is checked before PC is set to it; PC is after the operand bytes when it faults. -/
def longJump (nl nh : Byte) (s : State) : StepOutcome :=
  let target := s.vm.hbegin + le16 nl nh
  if s.vm.hend ≤ target then
    .next ((s.onVm (·.advance 3)).raise (.execLjTarget s.inst s.vm.pc target))
  else .next (s.onVm fun z => { z with pc := target })

/-- `HALT` (R182): the `run` in progress ends. -/
def halt (s : State) : StepOutcome :=
  let s := s.complete 1 id
  .next { s with phase := s.phase.afterHalt }

/-- An output sink is attached to the executing instance: to HCOMP none is (R27). -/
def State.outAttached (s : State) : Bool := decide (s.inst = .pcomp) && s.outSink

/-- A checksum sink is attached to the executing instance (R27). -/
def State.sumAttached (s : State) : Bool := decide (s.inst = .pcomp) && s.sumSink

/-- Put one byte to the output sink and to the checksum sink, each if attached (R183, R512). -/
def State.putByte (out sum : Bool) (b : Byte) (s : State) : State :=
  { s with output := if out then s.output ++ [b] else s.output
           checksum := if sum then s.checksum ++ [b] else s.checksum }

/-- `OUT` (R183): the low byte of A goes to each attached sink. -/
def outByte (s : State) : StepOutcome :=
  .next ((s.complete 1 id).putByte s.outAttached s.sumAttached (s.vm.a.setWidth 8))

/-- `HASH` (R184). -/
def hashA (s : State) : StepOutcome :=
  .next (s.complete 1 fun z => { z with a := hashStep z.a (z.readLoc .mb) })

/-- `HASHD` (R185). -/
def hashD (s : State) : StepOutcome :=
  .next (s.complete 1 fun z => z.writeLoc .hd (hashStep (z.readLoc .hd) z.a))

/-! ### Opcodes that fault -/

/-- `ERROR`: EXEC_ERROR_OPCODE; PC has advanced past the opcode byte (R131). -/
def errorOpcode (s : State) : StepOutcome :=
  .next ((s.onVm (·.advance 1)).raise (.execErrorOpcode s.inst s.vm.pc))

/-- An undefined opcode: EXEC_UNDEFINED_OPCODE; no operand byte is fetched and nothing but PC has changed (R186). -/
def undefinedOpcode (op : Byte) (s : State) : StepOutcome :=
  .next ((s.onVm (·.advance 1)).raise (.execUndefinedOpcode s.inst s.vm.pc op))

end Sys2Proof.Machine
end

