-- ==== Sys2Proof/Machine/Arith.lean ====
section
/-! DEFINITION. The meanings: Arithmetic on A, opcodes 128 to 175 (43_zpaql_arith.md R260 to R308). Each is entered with PC at the opcode
byte and advances it (log 6). -/

namespace Sys2Proof.Machine

/-- `A+=A` (R261). -/
def execAddA (s : State) : StepOutcome := operate .add (.loc .a) s

/-- `A+=B` (R262). -/
def execAddB (s : State) : StepOutcome := operate .add (.loc .b) s

/-- `A+=C` (R263). -/
def execAddC (s : State) : StepOutcome := operate .add (.loc .c) s

/-- `A+=D` (R264). -/
def execAddD (s : State) : StepOutcome := operate .add (.loc .d) s

/-- `A+=*B` (R265). -/
def execAddMb (s : State) : StepOutcome := operate .add (.loc .mb) s

/-- `A+=*C` (R266). -/
def execAddMc (s : State) : StepOutcome := operate .add (.loc .mc) s

/-- `A+=*D` (R267). -/
def execAddHd (s : State) : StepOutcome := operate .add (.loc .hd) s

/-- `A+= N` (R268). -/
def execAddN (n : Byte) (s : State) : StepOutcome := operate .add (.imm n) s

/-- `A-=A` (R269). -/
def execSubA (s : State) : StepOutcome := operate .sub (.loc .a) s

/-- `A-=B` (R270). -/
def execSubB (s : State) : StepOutcome := operate .sub (.loc .b) s

/-- `A-=C` (R271). -/
def execSubC (s : State) : StepOutcome := operate .sub (.loc .c) s

/-- `A-=D` (R272). -/
def execSubD (s : State) : StepOutcome := operate .sub (.loc .d) s

/-- `A-=*B` (R273). -/
def execSubMb (s : State) : StepOutcome := operate .sub (.loc .mb) s

/-- `A-=*C` (R274). -/
def execSubMc (s : State) : StepOutcome := operate .sub (.loc .mc) s

/-- `A-=*D` (R275). -/
def execSubHd (s : State) : StepOutcome := operate .sub (.loc .hd) s

/-- `A-= N` (R276). -/
def execSubN (n : Byte) (s : State) : StepOutcome := operate .sub (.imm n) s

/-- `A*=A` (R277). -/
def execMulA (s : State) : StepOutcome := operate .mul (.loc .a) s

/-- `A*=B` (R278). -/
def execMulB (s : State) : StepOutcome := operate .mul (.loc .b) s

/-- `A*=C` (R279). -/
def execMulC (s : State) : StepOutcome := operate .mul (.loc .c) s

/-- `A*=D` (R280). -/
def execMulD (s : State) : StepOutcome := operate .mul (.loc .d) s

/-- `A*=*B` (R281). -/
def execMulMb (s : State) : StepOutcome := operate .mul (.loc .mb) s

/-- `A*=*C` (R282). -/
def execMulMc (s : State) : StepOutcome := operate .mul (.loc .mc) s

/-- `A*=*D` (R283). -/
def execMulHd (s : State) : StepOutcome := operate .mul (.loc .hd) s

/-- `A*= N` (R284). -/
def execMulN (n : Byte) (s : State) : StepOutcome := operate .mul (.imm n) s

/-- `A/=A` (R285). -/
def execDivA (s : State) : StepOutcome := operate .div (.loc .a) s

/-- `A/=B` (R286). -/
def execDivB (s : State) : StepOutcome := operate .div (.loc .b) s

/-- `A/=C` (R287). -/
def execDivC (s : State) : StepOutcome := operate .div (.loc .c) s

/-- `A/=D` (R288). -/
def execDivD (s : State) : StepOutcome := operate .div (.loc .d) s

/-- `A/=*B` (R289). -/
def execDivMb (s : State) : StepOutcome := operate .div (.loc .mb) s

/-- `A/=*C` (R290). -/
def execDivMc (s : State) : StepOutcome := operate .div (.loc .mc) s

/-- `A/=*D` (R291). -/
def execDivHd (s : State) : StepOutcome := operate .div (.loc .hd) s

/-- `A/= N` (R292). -/
def execDivN (n : Byte) (s : State) : StepOutcome := operate .div (.imm n) s

/-- `A%=A` (R293). -/
def execModA (s : State) : StepOutcome := operate .mod (.loc .a) s

/-- `A%=B` (R294). -/
def execModB (s : State) : StepOutcome := operate .mod (.loc .b) s

/-- `A%=C` (R295). -/
def execModC (s : State) : StepOutcome := operate .mod (.loc .c) s

/-- `A%=D` (R296). -/
def execModD (s : State) : StepOutcome := operate .mod (.loc .d) s

/-- `A%=*B` (R297). -/
def execModMb (s : State) : StepOutcome := operate .mod (.loc .mb) s

/-- `A%=*C` (R298). -/
def execModMc (s : State) : StepOutcome := operate .mod (.loc .mc) s

/-- `A%=*D` (R299). -/
def execModHd (s : State) : StepOutcome := operate .mod (.loc .hd) s

/-- `A%= N` (R300). -/
def execModN (n : Byte) (s : State) : StepOutcome := operate .mod (.imm n) s

/-- `A&=A` (R301). -/
def execAndA (s : State) : StepOutcome := operate .and (.loc .a) s

/-- `A&=B` (R302). -/
def execAndB (s : State) : StepOutcome := operate .and (.loc .b) s

/-- `A&=C` (R303). -/
def execAndC (s : State) : StepOutcome := operate .and (.loc .c) s

/-- `A&=D` (R304). -/
def execAndD (s : State) : StepOutcome := operate .and (.loc .d) s

/-- `A&=*B` (R305). -/
def execAndMb (s : State) : StepOutcome := operate .and (.loc .mb) s

/-- `A&=*C` (R306). -/
def execAndMc (s : State) : StepOutcome := operate .and (.loc .mc) s

/-- `A&=*D` (R307). -/
def execAndHd (s : State) : StepOutcome := operate .and (.loc .hd) s

/-- `A&= N` (R308). -/
def execAndN (n : Byte) (s : State) : StepOutcome := operate .and (.imm n) s

end Sys2Proof.Machine
end

