-- ==== Sys2Proof/Machine/Assign.lean ====
section
/-! DEFINITION. The meanings: The 56 assignments, opcodes 64 to 119 (42_zpaql_assign.md R200 to R256). Each is entered with PC at the opcode
byte and advances it (log 6). -/

namespace Sys2Proof.Machine

/-- `A=A` (R201). -/
def execMovAA (s : State) : StepOutcome := assign .a (.loc .a) s

/-- `A=B` (R202). -/
def execMovAB (s : State) : StepOutcome := assign .a (.loc .b) s

/-- `A=C` (R203). -/
def execMovAC (s : State) : StepOutcome := assign .a (.loc .c) s

/-- `A=D` (R204). -/
def execMovAD (s : State) : StepOutcome := assign .a (.loc .d) s

/-- `A=*B` (R205). -/
def execMovAMb (s : State) : StepOutcome := assign .a (.loc .mb) s

/-- `A=*C` (R206). -/
def execMovAMc (s : State) : StepOutcome := assign .a (.loc .mc) s

/-- `A=*D` (R207). -/
def execMovAHd (s : State) : StepOutcome := assign .a (.loc .hd) s

/-- `A= N` (R208). -/
def execMovAN (n : Byte) (s : State) : StepOutcome := assign .a (.imm n) s

/-- `B=A` (R209). -/
def execMovBA (s : State) : StepOutcome := assign .b (.loc .a) s

/-- `B=B` (R210). -/
def execMovBB (s : State) : StepOutcome := assign .b (.loc .b) s

/-- `B=C` (R211). -/
def execMovBC (s : State) : StepOutcome := assign .b (.loc .c) s

/-- `B=D` (R212). -/
def execMovBD (s : State) : StepOutcome := assign .b (.loc .d) s

/-- `B=*B` (R213). -/
def execMovBMb (s : State) : StepOutcome := assign .b (.loc .mb) s

/-- `B=*C` (R214). -/
def execMovBMc (s : State) : StepOutcome := assign .b (.loc .mc) s

/-- `B=*D` (R215). -/
def execMovBHd (s : State) : StepOutcome := assign .b (.loc .hd) s

/-- `B= N` (R216). -/
def execMovBN (n : Byte) (s : State) : StepOutcome := assign .b (.imm n) s

/-- `C=A` (R217). -/
def execMovCA (s : State) : StepOutcome := assign .c (.loc .a) s

/-- `C=B` (R218). -/
def execMovCB (s : State) : StepOutcome := assign .c (.loc .b) s

/-- `C=C` (R219). -/
def execMovCC (s : State) : StepOutcome := assign .c (.loc .c) s

/-- `C=D` (R220). -/
def execMovCD (s : State) : StepOutcome := assign .c (.loc .d) s

/-- `C=*B` (R221). -/
def execMovCMb (s : State) : StepOutcome := assign .c (.loc .mb) s

/-- `C=*C` (R222). -/
def execMovCMc (s : State) : StepOutcome := assign .c (.loc .mc) s

/-- `C=*D` (R223). -/
def execMovCHd (s : State) : StepOutcome := assign .c (.loc .hd) s

/-- `C= N` (R224). -/
def execMovCN (n : Byte) (s : State) : StepOutcome := assign .c (.imm n) s

/-- `D=A` (R225). -/
def execMovDA (s : State) : StepOutcome := assign .d (.loc .a) s

/-- `D=B` (R226). -/
def execMovDB (s : State) : StepOutcome := assign .d (.loc .b) s

/-- `D=C` (R227). -/
def execMovDC (s : State) : StepOutcome := assign .d (.loc .c) s

/-- `D=D` (R228). -/
def execMovDD (s : State) : StepOutcome := assign .d (.loc .d) s

/-- `D=*B` (R229). -/
def execMovDMb (s : State) : StepOutcome := assign .d (.loc .mb) s

/-- `D=*C` (R230). -/
def execMovDMc (s : State) : StepOutcome := assign .d (.loc .mc) s

/-- `D=*D` (R231). -/
def execMovDHd (s : State) : StepOutcome := assign .d (.loc .hd) s

/-- `D= N` (R232). -/
def execMovDN (n : Byte) (s : State) : StepOutcome := assign .d (.imm n) s

/-- `*B=A` (R233). -/
def execMovMbA (s : State) : StepOutcome := assign .mb (.loc .a) s

/-- `*B=B` (R234). -/
def execMovMbB (s : State) : StepOutcome := assign .mb (.loc .b) s

/-- `*B=C` (R235). -/
def execMovMbC (s : State) : StepOutcome := assign .mb (.loc .c) s

/-- `*B=D` (R236). -/
def execMovMbD (s : State) : StepOutcome := assign .mb (.loc .d) s

/-- `*B=*B` (R237). -/
def execMovMbMb (s : State) : StepOutcome := assign .mb (.loc .mb) s

/-- `*B=*C` (R238). -/
def execMovMbMc (s : State) : StepOutcome := assign .mb (.loc .mc) s

/-- `*B=*D` (R239). -/
def execMovMbHd (s : State) : StepOutcome := assign .mb (.loc .hd) s

/-- `*B= N` (R240). -/
def execMovMbN (n : Byte) (s : State) : StepOutcome := assign .mb (.imm n) s

/-- `*C=A` (R241). -/
def execMovMcA (s : State) : StepOutcome := assign .mc (.loc .a) s

/-- `*C=B` (R242). -/
def execMovMcB (s : State) : StepOutcome := assign .mc (.loc .b) s

/-- `*C=C` (R243). -/
def execMovMcC (s : State) : StepOutcome := assign .mc (.loc .c) s

/-- `*C=D` (R244). -/
def execMovMcD (s : State) : StepOutcome := assign .mc (.loc .d) s

/-- `*C=*B` (R245). -/
def execMovMcMb (s : State) : StepOutcome := assign .mc (.loc .mb) s

/-- `*C=*C` (R246). -/
def execMovMcMc (s : State) : StepOutcome := assign .mc (.loc .mc) s

/-- `*C=*D` (R247). -/
def execMovMcHd (s : State) : StepOutcome := assign .mc (.loc .hd) s

/-- `*C= N` (R248). -/
def execMovMcN (n : Byte) (s : State) : StepOutcome := assign .mc (.imm n) s

/-- `*D=A` (R249). -/
def execMovHdA (s : State) : StepOutcome := assign .hd (.loc .a) s

/-- `*D=B` (R250). -/
def execMovHdB (s : State) : StepOutcome := assign .hd (.loc .b) s

/-- `*D=C` (R251). -/
def execMovHdC (s : State) : StepOutcome := assign .hd (.loc .c) s

/-- `*D=D` (R252). -/
def execMovHdD (s : State) : StepOutcome := assign .hd (.loc .d) s

/-- `*D=*B` (R253). -/
def execMovHdMb (s : State) : StepOutcome := assign .hd (.loc .mb) s

/-- `*D=*C` (R254). -/
def execMovHdMc (s : State) : StepOutcome := assign .hd (.loc .mc) s

/-- `*D=*D` (R255). -/
def execMovHdHd (s : State) : StepOutcome := assign .hd (.loc .hd) s

/-- `*D= N` (R256). -/
def execMovHdN (n : Byte) (s : State) : StepOutcome := assign .hd (.imm n) s

end Sys2Proof.Machine
end

