-- ==== Sys2Proof/Machine/Compare.lean ====
section
/-! DEFINITION. The meanings: Comparisons, opcodes 216 to 239 (44_zpaql_logic_shift_compare.md R351 to R374). Each is entered with PC at the opcode
byte and advances it (log 6). -/

namespace Sys2Proof.Machine

/-- `A==A` (R351). -/
def execEqA (s : State) : StepOutcome := compare .eq (.loc .a) s

/-- `A==B` (R352). -/
def execEqB (s : State) : StepOutcome := compare .eq (.loc .b) s

/-- `A==C` (R353). -/
def execEqC (s : State) : StepOutcome := compare .eq (.loc .c) s

/-- `A==D` (R354). -/
def execEqD (s : State) : StepOutcome := compare .eq (.loc .d) s

/-- `A==*B` (R355). -/
def execEqMb (s : State) : StepOutcome := compare .eq (.loc .mb) s

/-- `A==*C` (R356). -/
def execEqMc (s : State) : StepOutcome := compare .eq (.loc .mc) s

/-- `A==*D` (R357). -/
def execEqHd (s : State) : StepOutcome := compare .eq (.loc .hd) s

/-- `A== N` (R358). -/
def execEqN (n : Byte) (s : State) : StepOutcome := compare .eq (.imm n) s

/-- `A<A` (R359). -/
def execLtA (s : State) : StepOutcome := compare .lt (.loc .a) s

/-- `A<B` (R360). -/
def execLtB (s : State) : StepOutcome := compare .lt (.loc .b) s

/-- `A<C` (R361). -/
def execLtC (s : State) : StepOutcome := compare .lt (.loc .c) s

/-- `A<D` (R362). -/
def execLtD (s : State) : StepOutcome := compare .lt (.loc .d) s

/-- `A<*B` (R363). -/
def execLtMb (s : State) : StepOutcome := compare .lt (.loc .mb) s

/-- `A<*C` (R364). -/
def execLtMc (s : State) : StepOutcome := compare .lt (.loc .mc) s

/-- `A<*D` (R365). -/
def execLtHd (s : State) : StepOutcome := compare .lt (.loc .hd) s

/-- `A< N` (R366). -/
def execLtN (n : Byte) (s : State) : StepOutcome := compare .lt (.imm n) s

/-- `A>A` (R367). -/
def execGtA (s : State) : StepOutcome := compare .gt (.loc .a) s

/-- `A>B` (R368). -/
def execGtB (s : State) : StepOutcome := compare .gt (.loc .b) s

/-- `A>C` (R369). -/
def execGtC (s : State) : StepOutcome := compare .gt (.loc .c) s

/-- `A>D` (R370). -/
def execGtD (s : State) : StepOutcome := compare .gt (.loc .d) s

/-- `A>*B` (R371). -/
def execGtMb (s : State) : StepOutcome := compare .gt (.loc .mb) s

/-- `A>*C` (R372). -/
def execGtMc (s : State) : StepOutcome := compare .gt (.loc .mc) s

/-- `A>*D` (R373). -/
def execGtHd (s : State) : StepOutcome := compare .gt (.loc .hd) s

/-- `A> N` (R374). -/
def execGtN (n : Byte) (s : State) : StepOutcome := compare .gt (.imm n) s

end Sys2Proof.Machine
end

