-- ==== Sys2Proof/Machine/Control.lean ====
section
/-! DEFINITION. The meanings: Register-file moves, jumps, HALT, OUT, HASH, HASHD (41_zpaql_regfile_control.md R173 to R185). Each is entered with PC at the opcode
byte and advances it (log 6). -/

namespace Sys2Proof.Machine

/-- `A=R N` (R173). -/
def execLdA (n : Byte) (s : State) : StepOutcome := loadReg .a n s

/-- `B=R N` (R174). -/
def execLdB (n : Byte) (s : State) : StepOutcome := loadReg .b n s

/-- `C=R N` (R175). -/
def execLdC (n : Byte) (s : State) : StepOutcome := loadReg .c n s

/-- `D=R N` (R176). -/
def execLdD (n : Byte) (s : State) : StepOutcome := loadReg .d n s

/-- `JT N` (R178). -/
def execJt (n : Byte) (s : State) : StepOutcome := jumpIf s.vm.f n s

/-- `JF N` (R179). -/
def execJf (n : Byte) (s : State) : StepOutcome := jumpIf (!s.vm.f) n s

/-- `R=A N` (R177). -/
def execStA (n : Byte) (s : State) : StepOutcome := storeReg n s

/-- `HALT` (R182). -/
def execHalt (s : State) : StepOutcome := halt s

/-- `OUT` (R183). -/
def execOut (s : State) : StepOutcome := outByte s

/-- `HASH` (R184). -/
def execHash (s : State) : StepOutcome := hashA s

/-- `HASHD` (R185). -/
def execHashd (s : State) : StepOutcome := hashD s

/-- `JMP N` (R180). -/
def execJmp (n : Byte) (s : State) : StepOutcome := jumpIf true n s

/-- `LJ NL NH` (R181). -/
def execLj (nl : Byte) (nh : Byte) (s : State) : StepOutcome := longJump nl nh s

end Sys2Proof.Machine
end

