-- ==== Sys2Proof/Machine/Logic.lean ====
section
/-! DEFINITION. The meanings: Bit clear, OR, XOR and shifts on A, opcodes 176 to 215 (44_zpaql_logic_shift_compare.md R310 to R350). Each is entered with PC at the opcode
byte and advances it (log 6). -/

namespace Sys2Proof.Machine

/-- `A&~A` (R311). -/
def execAndNotA (s : State) : StepOutcome := operate .andNot (.loc .a) s

/-- `A&~B` (R312). -/
def execAndNotB (s : State) : StepOutcome := operate .andNot (.loc .b) s

/-- `A&~C` (R313). -/
def execAndNotC (s : State) : StepOutcome := operate .andNot (.loc .c) s

/-- `A&~D` (R314). -/
def execAndNotD (s : State) : StepOutcome := operate .andNot (.loc .d) s

/-- `A&~*B` (R315). -/
def execAndNotMb (s : State) : StepOutcome := operate .andNot (.loc .mb) s

/-- `A&~*C` (R316). -/
def execAndNotMc (s : State) : StepOutcome := operate .andNot (.loc .mc) s

/-- `A&~*D` (R317). -/
def execAndNotHd (s : State) : StepOutcome := operate .andNot (.loc .hd) s

/-- `A&~ N` (R318). -/
def execAndNotN (n : Byte) (s : State) : StepOutcome := operate .andNot (.imm n) s

/-- `A|=A` (R319). -/
def execOrA (s : State) : StepOutcome := operate .or (.loc .a) s

/-- `A|=B` (R320). -/
def execOrB (s : State) : StepOutcome := operate .or (.loc .b) s

/-- `A|=C` (R321). -/
def execOrC (s : State) : StepOutcome := operate .or (.loc .c) s

/-- `A|=D` (R322). -/
def execOrD (s : State) : StepOutcome := operate .or (.loc .d) s

/-- `A|=*B` (R323). -/
def execOrMb (s : State) : StepOutcome := operate .or (.loc .mb) s

/-- `A|=*C` (R324). -/
def execOrMc (s : State) : StepOutcome := operate .or (.loc .mc) s

/-- `A|=*D` (R325). -/
def execOrHd (s : State) : StepOutcome := operate .or (.loc .hd) s

/-- `A|= N` (R326). -/
def execOrN (n : Byte) (s : State) : StepOutcome := operate .or (.imm n) s

/-- `A^=A` (R327). -/
def execXorA (s : State) : StepOutcome := operate .xor (.loc .a) s

/-- `A^=B` (R328). -/
def execXorB (s : State) : StepOutcome := operate .xor (.loc .b) s

/-- `A^=C` (R329). -/
def execXorC (s : State) : StepOutcome := operate .xor (.loc .c) s

/-- `A^=D` (R330). -/
def execXorD (s : State) : StepOutcome := operate .xor (.loc .d) s

/-- `A^=*B` (R331). -/
def execXorMb (s : State) : StepOutcome := operate .xor (.loc .mb) s

/-- `A^=*C` (R332). -/
def execXorMc (s : State) : StepOutcome := operate .xor (.loc .mc) s

/-- `A^=*D` (R333). -/
def execXorHd (s : State) : StepOutcome := operate .xor (.loc .hd) s

/-- `A^= N` (R334). -/
def execXorN (n : Byte) (s : State) : StepOutcome := operate .xor (.imm n) s

/-- `A<<=A` (R335). -/
def execShlA (s : State) : StepOutcome := operate .shl (.loc .a) s

/-- `A<<=B` (R336). -/
def execShlB (s : State) : StepOutcome := operate .shl (.loc .b) s

/-- `A<<=C` (R337). -/
def execShlC (s : State) : StepOutcome := operate .shl (.loc .c) s

/-- `A<<=D` (R338). -/
def execShlD (s : State) : StepOutcome := operate .shl (.loc .d) s

/-- `A<<=*B` (R339). -/
def execShlMb (s : State) : StepOutcome := operate .shl (.loc .mb) s

/-- `A<<=*C` (R340). -/
def execShlMc (s : State) : StepOutcome := operate .shl (.loc .mc) s

/-- `A<<=*D` (R341). -/
def execShlHd (s : State) : StepOutcome := operate .shl (.loc .hd) s

/-- `A<<= N` (R342). -/
def execShlN (n : Byte) (s : State) : StepOutcome := operate .shl (.imm n) s

/-- `A>>=A` (R343). -/
def execShrA (s : State) : StepOutcome := operate .shr (.loc .a) s

/-- `A>>=B` (R344). -/
def execShrB (s : State) : StepOutcome := operate .shr (.loc .b) s

/-- `A>>=C` (R345). -/
def execShrC (s : State) : StepOutcome := operate .shr (.loc .c) s

/-- `A>>=D` (R346). -/
def execShrD (s : State) : StepOutcome := operate .shr (.loc .d) s

/-- `A>>=*B` (R347). -/
def execShrMb (s : State) : StepOutcome := operate .shr (.loc .mb) s

/-- `A>>=*C` (R348). -/
def execShrMc (s : State) : StepOutcome := operate .shr (.loc .mc) s

/-- `A>>=*D` (R349). -/
def execShrHd (s : State) : StepOutcome := operate .shr (.loc .hd) s

/-- `A>>= N` (R350). -/
def execShrN (n : Byte) (s : State) : StepOutcome := operate .shr (.imm n) s

end Sys2Proof.Machine
end

