-- ==== Sys2Proof/Machine/Unary.lean ====
section
/-! DEFINITION. The meanings: ERROR and the one-operand instructions on a location, opcodes 0 to 52 (40_zpaql_unary.md R130 to R165). Each is entered with PC at the opcode
byte and advances it (log 6). -/

namespace Sys2Proof.Machine

/-- `ERROR` (R131). -/
def execError (s : State) : StepOutcome := errorOpcode s

/-- `A++` (R138). -/
def execIncA (s : State) : StepOutcome := increment .a s

/-- `A--` (R145). -/
def execDecA (s : State) : StepOutcome := decrement .a s

/-- `A!` (R152). -/
def execNotA (s : State) : StepOutcome := complement .a s

/-- `A=0` (R159). -/
def execZeroA (s : State) : StepOutcome := clear .a s

/-- `B<>A` (R132). -/
def execSwapB (s : State) : StepOutcome := swapWord .b s

/-- `B++` (R139). -/
def execIncB (s : State) : StepOutcome := increment .b s

/-- `B--` (R146). -/
def execDecB (s : State) : StepOutcome := decrement .b s

/-- `B!` (R153). -/
def execNotB (s : State) : StepOutcome := complement .b s

/-- `B=0` (R160). -/
def execZeroB (s : State) : StepOutcome := clear .b s

/-- `C<>A` (R133). -/
def execSwapC (s : State) : StepOutcome := swapWord .c s

/-- `C++` (R140). -/
def execIncC (s : State) : StepOutcome := increment .c s

/-- `C--` (R147). -/
def execDecC (s : State) : StepOutcome := decrement .c s

/-- `C!` (R154). -/
def execNotC (s : State) : StepOutcome := complement .c s

/-- `C=0` (R161). -/
def execZeroC (s : State) : StepOutcome := clear .c s

/-- `D<>A` (R134). -/
def execSwapD (s : State) : StepOutcome := swapWord .d s

/-- `D++` (R141). -/
def execIncD (s : State) : StepOutcome := increment .d s

/-- `D--` (R148). -/
def execDecD (s : State) : StepOutcome := decrement .d s

/-- `D!` (R155). -/
def execNotD (s : State) : StepOutcome := complement .d s

/-- `D=0` (R162). -/
def execZeroD (s : State) : StepOutcome := clear .d s

/-- `*B<>A` (R135). -/
def execSwapMb (s : State) : StepOutcome := swapByte .mb s

/-- `*B++` (R142). -/
def execIncMb (s : State) : StepOutcome := increment .mb s

/-- `*B--` (R149). -/
def execDecMb (s : State) : StepOutcome := decrement .mb s

/-- `*B!` (R156). -/
def execNotMb (s : State) : StepOutcome := complement .mb s

/-- `*B=0` (R163). -/
def execZeroMb (s : State) : StepOutcome := clear .mb s

/-- `*C<>A` (R136). -/
def execSwapMc (s : State) : StepOutcome := swapByte .mc s

/-- `*C++` (R143). -/
def execIncMc (s : State) : StepOutcome := increment .mc s

/-- `*C--` (R150). -/
def execDecMc (s : State) : StepOutcome := decrement .mc s

/-- `*C!` (R157). -/
def execNotMc (s : State) : StepOutcome := complement .mc s

/-- `*C=0` (R164). -/
def execZeroMc (s : State) : StepOutcome := clear .mc s

/-- `*D<>A` (R137). -/
def execSwapHd (s : State) : StepOutcome := swapWord .hd s

/-- `*D++` (R144). -/
def execIncHd (s : State) : StepOutcome := increment .hd s

/-- `*D--` (R151). -/
def execDecHd (s : State) : StepOutcome := decrement .hd s

/-- `*D!` (R158). -/
def execNotHd (s : State) : StepOutcome := complement .hd s

/-- `*D=0` (R165). -/
def execZeroHd (s : State) : StepOutcome := clear .hd s

end Sys2Proof.Machine
end

