-- ==== Sys2Proof/Machine/Undefined.lean ====
section
/-! DEFINITION. The meanings: The 40 undefined opcodes (R107, R186). Each is entered with PC at the opcode
byte and advances it (log 6). -/

namespace Sys2Proof.Machine

/-- Undefined opcode 5 (R186). -/
def execUndef5 (s : State) : StepOutcome := undefinedOpcode 5 s

/-- Undefined opcode 6 (R186). -/
def execUndef6 (s : State) : StepOutcome := undefinedOpcode 6 s

/-- Undefined opcode 13 (R186). -/
def execUndef13 (s : State) : StepOutcome := undefinedOpcode 13 s

/-- Undefined opcode 14 (R186). -/
def execUndef14 (s : State) : StepOutcome := undefinedOpcode 14 s

/-- Undefined opcode 21 (R186). -/
def execUndef21 (s : State) : StepOutcome := undefinedOpcode 21 s

/-- Undefined opcode 22 (R186). -/
def execUndef22 (s : State) : StepOutcome := undefinedOpcode 22 s

/-- Undefined opcode 29 (R186). -/
def execUndef29 (s : State) : StepOutcome := undefinedOpcode 29 s

/-- Undefined opcode 30 (R186). -/
def execUndef30 (s : State) : StepOutcome := undefinedOpcode 30 s

/-- Undefined opcode 37 (R186). -/
def execUndef37 (s : State) : StepOutcome := undefinedOpcode 37 s

/-- Undefined opcode 38 (R186). -/
def execUndef38 (s : State) : StepOutcome := undefinedOpcode 38 s

/-- Undefined opcode 45 (R186). -/
def execUndef45 (s : State) : StepOutcome := undefinedOpcode 45 s

/-- Undefined opcode 46 (R186). -/
def execUndef46 (s : State) : StepOutcome := undefinedOpcode 46 s

/-- Undefined opcode 53 (R186). -/
def execUndef53 (s : State) : StepOutcome := undefinedOpcode 53 s

/-- Undefined opcode 54 (R186). -/
def execUndef54 (s : State) : StepOutcome := undefinedOpcode 54 s

/-- Undefined opcode 58 (R186). -/
def execUndef58 (s : State) : StepOutcome := undefinedOpcode 58 s

/-- Undefined opcode 61 (R186). -/
def execUndef61 (s : State) : StepOutcome := undefinedOpcode 61 s

/-- Undefined opcode 62 (R186). -/
def execUndef62 (s : State) : StepOutcome := undefinedOpcode 62 s

/-- Undefined opcode 120 (R186). -/
def execUndef120 (s : State) : StepOutcome := undefinedOpcode 120 s

/-- Undefined opcode 121 (R186). -/
def execUndef121 (s : State) : StepOutcome := undefinedOpcode 121 s

/-- Undefined opcode 122 (R186). -/
def execUndef122 (s : State) : StepOutcome := undefinedOpcode 122 s

/-- Undefined opcode 123 (R186). -/
def execUndef123 (s : State) : StepOutcome := undefinedOpcode 123 s

/-- Undefined opcode 124 (R186). -/
def execUndef124 (s : State) : StepOutcome := undefinedOpcode 124 s

/-- Undefined opcode 125 (R186). -/
def execUndef125 (s : State) : StepOutcome := undefinedOpcode 125 s

/-- Undefined opcode 126 (R186). -/
def execUndef126 (s : State) : StepOutcome := undefinedOpcode 126 s

/-- Undefined opcode 127 (R186). -/
def execUndef127 (s : State) : StepOutcome := undefinedOpcode 127 s

/-- Undefined opcode 240 (R186). -/
def execUndef240 (s : State) : StepOutcome := undefinedOpcode 240 s

/-- Undefined opcode 241 (R186). -/
def execUndef241 (s : State) : StepOutcome := undefinedOpcode 241 s

/-- Undefined opcode 242 (R186). -/
def execUndef242 (s : State) : StepOutcome := undefinedOpcode 242 s

/-- Undefined opcode 243 (R186). -/
def execUndef243 (s : State) : StepOutcome := undefinedOpcode 243 s

/-- Undefined opcode 244 (R186). -/
def execUndef244 (s : State) : StepOutcome := undefinedOpcode 244 s

/-- Undefined opcode 245 (R186). -/
def execUndef245 (s : State) : StepOutcome := undefinedOpcode 245 s

/-- Undefined opcode 246 (R186). -/
def execUndef246 (s : State) : StepOutcome := undefinedOpcode 246 s

/-- Undefined opcode 247 (R186). -/
def execUndef247 (s : State) : StepOutcome := undefinedOpcode 247 s

/-- Undefined opcode 248 (R186). -/
def execUndef248 (s : State) : StepOutcome := undefinedOpcode 248 s

/-- Undefined opcode 249 (R186). -/
def execUndef249 (s : State) : StepOutcome := undefinedOpcode 249 s

/-- Undefined opcode 250 (R186). -/
def execUndef250 (s : State) : StepOutcome := undefinedOpcode 250 s

/-- Undefined opcode 251 (R186). -/
def execUndef251 (s : State) : StepOutcome := undefinedOpcode 251 s

/-- Undefined opcode 252 (R186). -/
def execUndef252 (s : State) : StepOutcome := undefinedOpcode 252 s

/-- Undefined opcode 253 (R186). -/
def execUndef253 (s : State) : StepOutcome := undefinedOpcode 253 s

/-- Undefined opcode 254 (R186). -/
def execUndef254 (s : State) : StepOutcome := undefinedOpcode 254 s

end Sys2Proof.Machine
end

