-- ==== Sys2Proof/Machine/Dispatch.lean ====
section
/-! DEFINITION. The dispatch: one arm per constructor of `Instr`, each one call of its meaning. -/

namespace Sys2Proof.Machine

def exec (i : Instr) (s : State) : Host.Outcome State Fault Refusal :=
  match i with
  | .error => Sys2Proof.Machine.execError s
  | .incA => Sys2Proof.Machine.execIncA s
  | .decA => Sys2Proof.Machine.execDecA s
  | .notA => Sys2Proof.Machine.execNotA s
  | .zeroA => Sys2Proof.Machine.execZeroA s
  | .ldA n => Sys2Proof.Machine.execLdA n s
  | .swapB => Sys2Proof.Machine.execSwapB s
  | .incB => Sys2Proof.Machine.execIncB s
  | .decB => Sys2Proof.Machine.execDecB s
  | .notB => Sys2Proof.Machine.execNotB s
  | .zeroB => Sys2Proof.Machine.execZeroB s
  | .ldB n => Sys2Proof.Machine.execLdB n s
  | .swapC => Sys2Proof.Machine.execSwapC s
  | .incC => Sys2Proof.Machine.execIncC s
  | .decC => Sys2Proof.Machine.execDecC s
  | .notC => Sys2Proof.Machine.execNotC s
  | .zeroC => Sys2Proof.Machine.execZeroC s
  | .ldC n => Sys2Proof.Machine.execLdC n s
  | .swapD => Sys2Proof.Machine.execSwapD s
  | .incD => Sys2Proof.Machine.execIncD s
  | .decD => Sys2Proof.Machine.execDecD s
  | .notD => Sys2Proof.Machine.execNotD s
  | .zeroD => Sys2Proof.Machine.execZeroD s
  | .ldD n => Sys2Proof.Machine.execLdD n s
  | .swapMb => Sys2Proof.Machine.execSwapMb s
  | .incMb => Sys2Proof.Machine.execIncMb s
  | .decMb => Sys2Proof.Machine.execDecMb s
  | .notMb => Sys2Proof.Machine.execNotMb s
  | .zeroMb => Sys2Proof.Machine.execZeroMb s
  | .jt n => Sys2Proof.Machine.execJt n s
  | .swapMc => Sys2Proof.Machine.execSwapMc s
  | .incMc => Sys2Proof.Machine.execIncMc s
  | .decMc => Sys2Proof.Machine.execDecMc s
  | .notMc => Sys2Proof.Machine.execNotMc s
  | .zeroMc => Sys2Proof.Machine.execZeroMc s
  | .jf n => Sys2Proof.Machine.execJf n s
  | .swapHd => Sys2Proof.Machine.execSwapHd s
  | .incHd => Sys2Proof.Machine.execIncHd s
  | .decHd => Sys2Proof.Machine.execDecHd s
  | .notHd => Sys2Proof.Machine.execNotHd s
  | .zeroHd => Sys2Proof.Machine.execZeroHd s
  | .stA n => Sys2Proof.Machine.execStA n s
  | .halt => Sys2Proof.Machine.execHalt s
  | .out => Sys2Proof.Machine.execOut s
  | .hash => Sys2Proof.Machine.execHash s
  | .hashd => Sys2Proof.Machine.execHashd s
  | .jmp n => Sys2Proof.Machine.execJmp n s
  | .movAA => Sys2Proof.Machine.execMovAA s
  | .movAB => Sys2Proof.Machine.execMovAB s
  | .movAC => Sys2Proof.Machine.execMovAC s
  | .movAD => Sys2Proof.Machine.execMovAD s
  | .movAMb => Sys2Proof.Machine.execMovAMb s
  | .movAMc => Sys2Proof.Machine.execMovAMc s
  | .movAHd => Sys2Proof.Machine.execMovAHd s
  | .movAN n => Sys2Proof.Machine.execMovAN n s
  | .movBA => Sys2Proof.Machine.execMovBA s
  | .movBB => Sys2Proof.Machine.execMovBB s
  | .movBC => Sys2Proof.Machine.execMovBC s
  | .movBD => Sys2Proof.Machine.execMovBD s
  | .movBMb => Sys2Proof.Machine.execMovBMb s
  | .movBMc => Sys2Proof.Machine.execMovBMc s
  | .movBHd => Sys2Proof.Machine.execMovBHd s
  | .movBN n => Sys2Proof.Machine.execMovBN n s
  | .movCA => Sys2Proof.Machine.execMovCA s
  | .movCB => Sys2Proof.Machine.execMovCB s
  | .movCC => Sys2Proof.Machine.execMovCC s
  | .movCD => Sys2Proof.Machine.execMovCD s
  | .movCMb => Sys2Proof.Machine.execMovCMb s
  | .movCMc => Sys2Proof.Machine.execMovCMc s
  | .movCHd => Sys2Proof.Machine.execMovCHd s
  | .movCN n => Sys2Proof.Machine.execMovCN n s
  | .movDA => Sys2Proof.Machine.execMovDA s
  | .movDB => Sys2Proof.Machine.execMovDB s
  | .movDC => Sys2Proof.Machine.execMovDC s
  | .movDD => Sys2Proof.Machine.execMovDD s
  | .movDMb => Sys2Proof.Machine.execMovDMb s
  | .movDMc => Sys2Proof.Machine.execMovDMc s
  | .movDHd => Sys2Proof.Machine.execMovDHd s
  | .movDN n => Sys2Proof.Machine.execMovDN n s
  | .movMbA => Sys2Proof.Machine.execMovMbA s
  | .movMbB => Sys2Proof.Machine.execMovMbB s
  | .movMbC => Sys2Proof.Machine.execMovMbC s
  | .movMbD => Sys2Proof.Machine.execMovMbD s
  | .movMbMb => Sys2Proof.Machine.execMovMbMb s
  | .movMbMc => Sys2Proof.Machine.execMovMbMc s
  | .movMbHd => Sys2Proof.Machine.execMovMbHd s
  | .movMbN n => Sys2Proof.Machine.execMovMbN n s
  | .movMcA => Sys2Proof.Machine.execMovMcA s
  | .movMcB => Sys2Proof.Machine.execMovMcB s
  | .movMcC => Sys2Proof.Machine.execMovMcC s
  | .movMcD => Sys2Proof.Machine.execMovMcD s
  | .movMcMb => Sys2Proof.Machine.execMovMcMb s
  | .movMcMc => Sys2Proof.Machine.execMovMcMc s
  | .movMcHd => Sys2Proof.Machine.execMovMcHd s
  | .movMcN n => Sys2Proof.Machine.execMovMcN n s
  | .movHdA => Sys2Proof.Machine.execMovHdA s
  | .movHdB => Sys2Proof.Machine.execMovHdB s
  | .movHdC => Sys2Proof.Machine.execMovHdC s
  | .movHdD => Sys2Proof.Machine.execMovHdD s
  | .movHdMb => Sys2Proof.Machine.execMovHdMb s
  | .movHdMc => Sys2Proof.Machine.execMovHdMc s
  | .movHdHd => Sys2Proof.Machine.execMovHdHd s
  | .movHdN n => Sys2Proof.Machine.execMovHdN n s
  | .addA => Sys2Proof.Machine.execAddA s
  | .addB => Sys2Proof.Machine.execAddB s
  | .addC => Sys2Proof.Machine.execAddC s
  | .addD => Sys2Proof.Machine.execAddD s
  | .addMb => Sys2Proof.Machine.execAddMb s
  | .addMc => Sys2Proof.Machine.execAddMc s
  | .addHd => Sys2Proof.Machine.execAddHd s
  | .addN n => Sys2Proof.Machine.execAddN n s
  | .subA => Sys2Proof.Machine.execSubA s
  | .subB => Sys2Proof.Machine.execSubB s
  | .subC => Sys2Proof.Machine.execSubC s
  | .subD => Sys2Proof.Machine.execSubD s
  | .subMb => Sys2Proof.Machine.execSubMb s
  | .subMc => Sys2Proof.Machine.execSubMc s
  | .subHd => Sys2Proof.Machine.execSubHd s
  | .subN n => Sys2Proof.Machine.execSubN n s
  | .mulA => Sys2Proof.Machine.execMulA s
  | .mulB => Sys2Proof.Machine.execMulB s
  | .mulC => Sys2Proof.Machine.execMulC s
  | .mulD => Sys2Proof.Machine.execMulD s
  | .mulMb => Sys2Proof.Machine.execMulMb s
  | .mulMc => Sys2Proof.Machine.execMulMc s
  | .mulHd => Sys2Proof.Machine.execMulHd s
  | .mulN n => Sys2Proof.Machine.execMulN n s
  | .divA => Sys2Proof.Machine.execDivA s
  | .divB => Sys2Proof.Machine.execDivB s
  | .divC => Sys2Proof.Machine.execDivC s
  | .divD => Sys2Proof.Machine.execDivD s
  | .divMb => Sys2Proof.Machine.execDivMb s
  | .divMc => Sys2Proof.Machine.execDivMc s
  | .divHd => Sys2Proof.Machine.execDivHd s
  | .divN n => Sys2Proof.Machine.execDivN n s
  | .modA => Sys2Proof.Machine.execModA s
  | .modB => Sys2Proof.Machine.execModB s
  | .modC => Sys2Proof.Machine.execModC s
  | .modD => Sys2Proof.Machine.execModD s
  | .modMb => Sys2Proof.Machine.execModMb s
  | .modMc => Sys2Proof.Machine.execModMc s
  | .modHd => Sys2Proof.Machine.execModHd s
  | .modN n => Sys2Proof.Machine.execModN n s
  | .andA => Sys2Proof.Machine.execAndA s
  | .andB => Sys2Proof.Machine.execAndB s
  | .andC => Sys2Proof.Machine.execAndC s
  | .andD => Sys2Proof.Machine.execAndD s
  | .andMb => Sys2Proof.Machine.execAndMb s
  | .andMc => Sys2Proof.Machine.execAndMc s
  | .andHd => Sys2Proof.Machine.execAndHd s
  | .andN n => Sys2Proof.Machine.execAndN n s
  | .andNotA => Sys2Proof.Machine.execAndNotA s
  | .andNotB => Sys2Proof.Machine.execAndNotB s
  | .andNotC => Sys2Proof.Machine.execAndNotC s
  | .andNotD => Sys2Proof.Machine.execAndNotD s
  | .andNotMb => Sys2Proof.Machine.execAndNotMb s
  | .andNotMc => Sys2Proof.Machine.execAndNotMc s
  | .andNotHd => Sys2Proof.Machine.execAndNotHd s
  | .andNotN n => Sys2Proof.Machine.execAndNotN n s
  | .orA => Sys2Proof.Machine.execOrA s
  | .orB => Sys2Proof.Machine.execOrB s
  | .orC => Sys2Proof.Machine.execOrC s
  | .orD => Sys2Proof.Machine.execOrD s
  | .orMb => Sys2Proof.Machine.execOrMb s
  | .orMc => Sys2Proof.Machine.execOrMc s
  | .orHd => Sys2Proof.Machine.execOrHd s
  | .orN n => Sys2Proof.Machine.execOrN n s
  | .xorA => Sys2Proof.Machine.execXorA s
  | .xorB => Sys2Proof.Machine.execXorB s
  | .xorC => Sys2Proof.Machine.execXorC s
  | .xorD => Sys2Proof.Machine.execXorD s
  | .xorMb => Sys2Proof.Machine.execXorMb s
  | .xorMc => Sys2Proof.Machine.execXorMc s
  | .xorHd => Sys2Proof.Machine.execXorHd s
  | .xorN n => Sys2Proof.Machine.execXorN n s
  | .shlA => Sys2Proof.Machine.execShlA s
  | .shlB => Sys2Proof.Machine.execShlB s
  | .shlC => Sys2Proof.Machine.execShlC s
  | .shlD => Sys2Proof.Machine.execShlD s
  | .shlMb => Sys2Proof.Machine.execShlMb s
  | .shlMc => Sys2Proof.Machine.execShlMc s
  | .shlHd => Sys2Proof.Machine.execShlHd s
  | .shlN n => Sys2Proof.Machine.execShlN n s
  | .shrA => Sys2Proof.Machine.execShrA s
  | .shrB => Sys2Proof.Machine.execShrB s
  | .shrC => Sys2Proof.Machine.execShrC s
  | .shrD => Sys2Proof.Machine.execShrD s
  | .shrMb => Sys2Proof.Machine.execShrMb s
  | .shrMc => Sys2Proof.Machine.execShrMc s
  | .shrHd => Sys2Proof.Machine.execShrHd s
  | .shrN n => Sys2Proof.Machine.execShrN n s
  | .eqA => Sys2Proof.Machine.execEqA s
  | .eqB => Sys2Proof.Machine.execEqB s
  | .eqC => Sys2Proof.Machine.execEqC s
  | .eqD => Sys2Proof.Machine.execEqD s
  | .eqMb => Sys2Proof.Machine.execEqMb s
  | .eqMc => Sys2Proof.Machine.execEqMc s
  | .eqHd => Sys2Proof.Machine.execEqHd s
  | .eqN n => Sys2Proof.Machine.execEqN n s
  | .ltA => Sys2Proof.Machine.execLtA s
  | .ltB => Sys2Proof.Machine.execLtB s
  | .ltC => Sys2Proof.Machine.execLtC s
  | .ltD => Sys2Proof.Machine.execLtD s
  | .ltMb => Sys2Proof.Machine.execLtMb s
  | .ltMc => Sys2Proof.Machine.execLtMc s
  | .ltHd => Sys2Proof.Machine.execLtHd s
  | .ltN n => Sys2Proof.Machine.execLtN n s
  | .gtA => Sys2Proof.Machine.execGtA s
  | .gtB => Sys2Proof.Machine.execGtB s
  | .gtC => Sys2Proof.Machine.execGtC s
  | .gtD => Sys2Proof.Machine.execGtD s
  | .gtMb => Sys2Proof.Machine.execGtMb s
  | .gtMc => Sys2Proof.Machine.execGtMc s
  | .gtHd => Sys2Proof.Machine.execGtHd s
  | .gtN n => Sys2Proof.Machine.execGtN n s
  | .lj nl nh => Sys2Proof.Machine.execLj nl nh s
  | .undef5 => Sys2Proof.Machine.execUndef5 s
  | .undef6 => Sys2Proof.Machine.execUndef6 s
  | .undef13 => Sys2Proof.Machine.execUndef13 s
  | .undef14 => Sys2Proof.Machine.execUndef14 s
  | .undef21 => Sys2Proof.Machine.execUndef21 s
  | .undef22 => Sys2Proof.Machine.execUndef22 s
  | .undef29 => Sys2Proof.Machine.execUndef29 s
  | .undef30 => Sys2Proof.Machine.execUndef30 s
  | .undef37 => Sys2Proof.Machine.execUndef37 s
  | .undef38 => Sys2Proof.Machine.execUndef38 s
  | .undef45 => Sys2Proof.Machine.execUndef45 s
  | .undef46 => Sys2Proof.Machine.execUndef46 s
  | .undef53 => Sys2Proof.Machine.execUndef53 s
  | .undef54 => Sys2Proof.Machine.execUndef54 s
  | .undef58 => Sys2Proof.Machine.execUndef58 s
  | .undef61 => Sys2Proof.Machine.execUndef61 s
  | .undef62 => Sys2Proof.Machine.execUndef62 s
  | .undef120 => Sys2Proof.Machine.execUndef120 s
  | .undef121 => Sys2Proof.Machine.execUndef121 s
  | .undef122 => Sys2Proof.Machine.execUndef122 s
  | .undef123 => Sys2Proof.Machine.execUndef123 s
  | .undef124 => Sys2Proof.Machine.execUndef124 s
  | .undef125 => Sys2Proof.Machine.execUndef125 s
  | .undef126 => Sys2Proof.Machine.execUndef126 s
  | .undef127 => Sys2Proof.Machine.execUndef127 s
  | .undef240 => Sys2Proof.Machine.execUndef240 s
  | .undef241 => Sys2Proof.Machine.execUndef241 s
  | .undef242 => Sys2Proof.Machine.execUndef242 s
  | .undef243 => Sys2Proof.Machine.execUndef243 s
  | .undef244 => Sys2Proof.Machine.execUndef244 s
  | .undef245 => Sys2Proof.Machine.execUndef245 s
  | .undef246 => Sys2Proof.Machine.execUndef246 s
  | .undef247 => Sys2Proof.Machine.execUndef247 s
  | .undef248 => Sys2Proof.Machine.execUndef248 s
  | .undef249 => Sys2Proof.Machine.execUndef249 s
  | .undef250 => Sys2Proof.Machine.execUndef250 s
  | .undef251 => Sys2Proof.Machine.execUndef251 s
  | .undef252 => Sys2Proof.Machine.execUndef252 s
  | .undef253 => Sys2Proof.Machine.execUndef253 s
  | .undef254 => Sys2Proof.Machine.execUndef254 s

end Sys2Proof.Machine
end

