-- ==== Sys2Proof/Machine/Coder.lean ====
section
/-! DEFINITION. The arithmetic coder: the split, `encode` and `decode` with their renormalisation loops (R472 to R477) and
the four-byte load of `curr` (R481). -/

namespace Sys2Proof.Machine

/-- The split point for probability `p` (R472). When `high < low`, which no reachable state has, the difference is taken
as 0 (log 21). -/
def Coder.mid (k : Coder) (p : Nat) : Word :=
  let r := k.high.toNat - k.low.toNat
  BitVec.ofNat 32 (k.low.toNat + (r >>> 16) * p + (((r &&& 0xFFFF) * p) >>> 16))

/-- The range narrowed to the part of bit `y`: the lower part is the bit 1's (R473). -/
def Coder.narrow (k : Coder) (y : Bool) (p : Nat) : Coder :=
  if y then { k with high := k.mid p } else { k with low := k.mid p + 1 }

/-- The top bytes of `low` and `high` are equal: `(high xor low) < 0x1000000` (R474). -/
def Coder.sameTop (k : Coder) : Bool := decide ((k.high ^^^ k.low).toNat < 0x1000000)

/-- One turn of either renormalisation loop: eight 1 bits enter `high`, eight 0 bits `low`, and `low` stays above 0
(R474, R476). -/
def Coder.shift (k : Coder) : Coder :=
  { k with high := (k.high <<< 8) ||| 0xFF, low := if k.low <<< 8 = 0 then 1 else k.low <<< 8 }

/-- The common top byte. -/
def Coder.topByte (k : Coder) : Byte := (k.high >>> 24).setWidth 8

/-- The encoder's renormalisation loop (R474), at most `fuel` turns, with the bytes it emits. Four turns always end it
(R484 c). -/
def Coder.renormEncode : Nat → Coder → Coder × List Byte
  | 0, k => (k, [])
  | fuel + 1, k =>
    if k.sameTop then
      let r := Coder.renormEncode fuel k.shift
      (r.1, k.topByte :: r.2)
    else (k, [])

/-- `encode(y, p)`: the coder after it and the bytes put to the Writer (R473, R474). -/
def Coder.encode (k : Coder) (y : Bool) (p : Nat) : Coder × List Byte := Coder.renormEncode 4 (k.narrow y p)

/-- `curr` with one more byte: the oldest of its four bytes leaves at the top (R476, R481). -/
def Coder.pull (k : Coder) (b : Byte) : Coder := { k with curr := (k.curr <<< 8) ||| b.setWidth 32 }

/-- The decoder's renormalisation loop (R476): the coder and the bytes the Reader has left, or none when a `get` returned
the EOF sentinel. -/
def Coder.renormDecode : Nat → Coder → List Byte → Option (Coder × List Byte)
  | 0, k, input => some (k, input)
  | fuel + 1, k, input =>
    if k.sameTop then
      match input with
      | [] => none
      | b :: rest => Coder.renormDecode fuel (k.shift.pull b) rest
    else some (k, input)

/-- What a `decode` does. -/
inductive DecodeOutcome where
  /-- the bit, the coder after it, the bytes the Reader has left -/
  | bit (y : Bool) (k : Coder) (rest : List Byte)
  /-- `curr` is outside `[low, high]` (R477) -/
  | corrupt
  /-- the Reader was exhausted (R483) -/
  | eof
  deriving DecidableEq, Repr

/-- `curr` lies in `[low, high]` (R475). -/
def Coder.inRange (k : Coder) : Bool := decide (k.low ≤ k.curr) && decide (k.curr ≤ k.high)

/-- `decode(p)` (R475): the range check, the split, the renormalisation. -/
def Coder.decode (k : Coder) (p : Nat) (input : List Byte) : DecodeOutcome :=
  if k.inRange then
    let y := decide (k.curr ≤ k.mid p)
    match Coder.renormDecode 4 (k.narrow y p) input with
    | some (k', rest) => .bit y k' rest
    | none => .eof
  else .corrupt

/-- The load of `count` bytes into `curr` (R481): the coder and the bytes the Reader has left, and whether every byte was
there. The bytes read before an EOF sentinel are in `curr` (log 9). -/
def Coder.loadCurr : Nat → Coder → List Byte → Coder × List Byte × Bool
  | 0, k, input => (k, input, true)
  | count + 1, k, input =>
    match input with
    | [] => (k, [], false)
    | b :: rest => Coder.loadCurr count (k.pull b) rest

end Sys2Proof.Machine
end

