-- ==== Sys2Proof/Machine/Find.lean ====
section
/-! DEFINITION. The hash-row lookup `find` (45_predictor_tables.md R400, R401). -/

namespace Sys2Proof.Machine

/-- The check byte of a 32-bit context in a table of `2^sizebits` rows (R400). -/
def findCheck (sizebits cxt : Nat) : Byte := BitVec.ofNat 8 (cxt >>> sizebits)

/-- The byte index of the first row probed, `16 * (cxt mod 2^sizebits)`; the others are it `xor 16` and `xor 32` (R400). -/
def findHome (sizebits cxt : Nat) : Nat := 16 * (cxt % 2 ^ sizebits)

/-- The row to evict: the one whose byte 1 is lowest; h0 wins ties, h1 beats h2 only when strictly lower (R400). -/
def findVictim (ht : List Host.Cell) (h0 h1 h2 : Nat) : Nat :=
  let pri := fun h => (peek 0#8 ht (h + 1)).toNat
  if pri h0 ≤ pri h1 ∧ pri h0 ≤ pri h2 then h0 else if pri h1 < pri h2 then h1 else h2

/-- `find(ht, sizebits, cxt)`: the byte index of the row for `cxt`, and the table, in which a row has been cleared and
given the check byte if none of the three probed held it (R400). -/
def findRow (ht : List Host.Cell) (sizebits cxt : Nat) : Nat × List Host.Cell :=
  let chk := findCheck sizebits cxt
  let h0 := findHome sizebits cxt
  let h1 := h0 ^^^ 16
  let h2 := h0 ^^^ 32
  if peek 0#8 ht h0 = chk then (h0, ht)
  else if peek 0#8 ht h1 = chk then (h1, ht)
  else if peek 0#8 ht h2 = chk then (h2, ht)
  else
    let v := findVictim ht h0 h1 h2
    (v, pokeBytes ht v (chk :: List.replicate 15 0#8))

end Sys2Proof.Machine
end

