-- ==== Sys2Proof/Machine/Tables.lean ====
section
/-! DEFINITION. The predictor's constant tables (45_predictor_tables.md R380 to R386) with the literals of
49_table_literals.md. They are constants, not state (R383). -/

namespace Sys2Proof.Machine

/-- `squash(x)` for `x` from -665, eleven values a row (R590). -/
def squashRows0 : List (List Nat) :=
  [[1, 1, 1, 1, 1, 1, 1, 1, 1, 1, 1],
   [1, 1, 1, 1, 1, 1, 1, 1, 1, 1, 1],
   [1, 1, 1, 1, 1, 1, 1, 1, 1, 1, 1],
   [1, 1, 1, 1, 1, 1, 1, 1, 1, 1, 1],
   [2, 2, 2, 2, 2, 2, 2, 2, 2, 2, 2],
   [2, 2, 2, 2, 2, 2, 2, 2, 2, 2, 2],
   [2, 2, 2, 2, 3, 3, 3, 3, 3, 3, 3],
   [3, 3, 3, 3, 3, 3, 3, 3, 3, 3, 3],
   [3, 4, 4, 4, 4, 4, 4, 4, 4, 4, 4],
   [4, 4, 4, 4, 5, 5, 5, 5, 5, 5, 5],
   [5, 5, 5, 5, 5, 6, 6, 6, 6, 6, 6],
   [6, 6, 6, 6, 7, 7, 7, 7, 7, 7, 7],
   [7, 8, 8, 8, 8, 8, 8, 8, 8, 9, 9],
   [9, 9, 9, 9, 10, 10, 10, 10, 10, 10, 10],
   [11, 11, 11, 11, 11, 12, 12, 12, 12, 12, 13],
   [13, 13, 13, 13, 14, 14, 14, 14, 15, 15, 15],
   [15, 15, 16, 16, 16, 17, 17, 17, 17, 18, 18],
   [18, 18, 19, 19, 19, 20, 20, 20, 21, 21, 21],
   [22, 22, 22, 23, 23, 23, 24, 24, 25, 25, 25],
   [26, 26, 27, 27, 28, 28, 28, 29, 29, 30, 30],
   [31, 31, 32, 32, 33, 33, 34, 34, 35, 36, 36],
   [37, 37, 38, 38, 39, 40, 40, 41, 42, 42, 43],
   [44, 44, 45, 46, 46, 47, 48, 49, 49, 50, 51],
   [52, 53, 54, 54, 55, 56, 57, 58, 59, 60, 61],
   [62, 63, 64, 65, 66, 67, 68, 69, 70, 71, 72]]

/-- `squash(x)` for `x` from -390, eleven values a row (R590). -/
def squashRows1 : List (List Nat) :=
  [[73, 74, 76, 77, 78, 79, 81, 82, 83, 84, 86],
   [87, 88, 90, 91, 93, 94, 96, 97, 99, 100, 102],
   [103, 105, 107, 108, 110, 112, 114, 115, 117, 119, 121],
   [123, 125, 127, 129, 131, 133, 135, 137, 139, 141, 144],
   [146, 148, 151, 153, 155, 158, 160, 163, 165, 168, 171],
   [173, 176, 179, 182, 184, 187, 190, 193, 196, 199, 202],
   [206, 209, 212, 215, 219, 222, 226, 229, 233, 237, 240],
   [244, 248, 252, 256, 260, 264, 268, 272, 276, 281, 285],
   [289, 294, 299, 303, 308, 313, 318, 323, 328, 333, 338],
   [343, 349, 354, 360, 365, 371, 377, 382, 388, 394, 401],
   [407, 413, 420, 426, 433, 440, 446, 453, 460, 467, 475],
   [482, 490, 497, 505, 513, 521, 529, 537, 545, 554, 562],
   [571, 580, 589, 598, 607, 617, 626, 636, 646, 656, 666],
   [676, 686, 697, 708, 719, 730, 741, 752, 764, 776, 788],
   [800, 812, 825, 837, 850, 863, 876, 890, 903, 917, 931],
   [946, 960, 975, 990, 1005, 1020, 1036, 1051, 1067, 1084, 1100],
   [1117, 1134, 1151, 1169, 1186, 1204, 1223, 1241, 1260, 1279, 1298],
   [1318, 1338, 1358, 1379, 1399, 1421, 1442, 1464, 1486, 1508, 1531],
   [1554, 1577, 1600, 1624, 1649, 1673, 1698, 1724, 1749, 1775, 1802],
   [1829, 1856, 1883, 1911, 1940, 1968, 1998, 2027, 2057, 2087, 2118],
   [2149, 2181, 2213, 2245, 2278, 2312, 2345, 2380, 2414, 2450, 2485],
   [2521, 2558, 2595, 2633, 2671, 2709, 2748, 2788, 2828, 2869, 2910],
   [2952, 2994, 3037, 3080, 3124, 3168, 3213, 3259, 3305, 3352, 3399],
   [3447, 3496, 3545, 3594, 3645, 3696, 3747, 3799, 3852, 3906, 3960],
   [4014, 4070, 4126, 4182, 4240, 4298, 4356, 4416, 4476, 4537, 4598]]

/-- `squash(x)` for `x` from -115, eleven values a row (R590). -/
def squashRows2 : List (List Nat) :=
  [[4660, 4723, 4786, 4851, 4916, 4981, 5048, 5115, 5183, 5251, 5320],
   [5390, 5461, 5533, 5605, 5678, 5752, 5826, 5901, 5977, 6054, 6131],
   [6210, 6289, 6369, 6449, 6530, 6613, 6695, 6779, 6863, 6949, 7035],
   [7121, 7209, 7297, 7386, 7476, 7566, 7658, 7750, 7842, 7936, 8030],
   [8126, 8221, 8318, 8415, 8513, 8612, 8712, 8812, 8913, 9015, 9117],
   [9221, 9324, 9429, 9534, 9640, 9747, 9854, 9962, 10071, 10180, 10290],
   [10401, 10512, 10624, 10737, 10850, 10963, 11078, 11192, 11308, 11424, 11540],
   [11658, 11775, 11893, 12012, 12131, 12251, 12371, 12491, 12612, 12734, 12856],
   [12978, 13101, 13224, 13347, 13471, 13595, 13719, 13844, 13969, 14095, 14220],
   [14346, 14472, 14599, 14725, 14852, 14979, 15106, 15233, 15361, 15488, 15616],
   [15744, 15872, 16000, 16128, 16256, 16384, 16511, 16639, 16767, 16895, 17023],
   [17151, 17279, 17406, 17534, 17661, 17788, 17915, 18042, 18168, 18295, 18421],
   [18547, 18672, 18798, 18923, 19048, 19172, 19296, 19420, 19543, 19666, 19789],
   [19911, 20033, 20155, 20276, 20396, 20516, 20636, 20755, 20874, 20992, 21109],
   [21227, 21343, 21459, 21575, 21689, 21804, 21917, 22030, 22143, 22255, 22366],
   [22477, 22587, 22696, 22805, 22913, 23020, 23127, 23233, 23338, 23443, 23546],
   [23650, 23752, 23854, 23955, 24055, 24155, 24254, 24352, 24449, 24546, 24641],
   [24737, 24831, 24925, 25017, 25109, 25201, 25291, 25381, 25470, 25558, 25646],
   [25732, 25818, 25904, 25988, 26072, 26154, 26237, 26318, 26398, 26478, 26557],
   [26636, 26713, 26790, 26866, 26941, 27015, 27089, 27162, 27234, 27306, 27377],
   [27447, 27516, 27584, 27652, 27719, 27786, 27851, 27916, 27981, 28044, 28107],
   [28169, 28230, 28291, 28351, 28411, 28469, 28527, 28585, 28641, 28697, 28753],
   [28807, 28861, 28915, 28968, 29020, 29071, 29122, 29173, 29222, 29271, 29320],
   [29368, 29415, 29462, 29508, 29554, 29599, 29643, 29687, 29730, 29773, 29815],
   [29857, 29898, 29939, 29979, 30019, 30058, 30096, 30134, 30172, 30209, 30246]]

/-- `squash(x)` for `x` from 160, eleven values a row (R590). -/
def squashRows3 : List (List Nat) :=
  [[30282, 30317, 30353, 30387, 30422, 30455, 30489, 30522, 30554, 30586, 30618],
   [30649, 30680, 30710, 30740, 30769, 30799, 30827, 30856, 30884, 30911, 30938],
   [30965, 30992, 31018, 31043, 31069, 31094, 31118, 31143, 31167, 31190, 31213],
   [31236, 31259, 31281, 31303, 31325, 31346, 31368, 31388, 31409, 31429, 31449],
   [31469, 31488, 31507, 31526, 31544, 31563, 31581, 31598, 31616, 31633, 31650],
   [31667, 31683, 31700, 31716, 31731, 31747, 31762, 31777, 31792, 31807, 31821],
   [31836, 31850, 31864, 31877, 31891, 31904, 31917, 31930, 31942, 31955, 31967],
   [31979, 31991, 32003, 32015, 32026, 32037, 32048, 32059, 32070, 32081, 32091],
   [32101, 32111, 32121, 32131, 32141, 32150, 32160, 32169, 32178, 32187, 32196],
   [32205, 32213, 32222, 32230, 32238, 32246, 32254, 32262, 32270, 32277, 32285],
   [32292, 32300, 32307, 32314, 32321, 32327, 32334, 32341, 32347, 32354, 32360],
   [32366, 32373, 32379, 32385, 32390, 32396, 32402, 32407, 32413, 32418, 32424],
   [32429, 32434, 32439, 32444, 32449, 32454, 32459, 32464, 32468, 32473, 32478],
   [32482, 32486, 32491, 32495, 32499, 32503, 32507, 32511, 32515, 32519, 32523],
   [32527, 32530, 32534, 32538, 32541, 32545, 32548, 32552, 32555, 32558, 32561],
   [32565, 32568, 32571, 32574, 32577, 32580, 32583, 32585, 32588, 32591, 32594],
   [32596, 32599, 32602, 32604, 32607, 32609, 32612, 32614, 32616, 32619, 32621],
   [32623, 32626, 32628, 32630, 32632, 32634, 32636, 32638, 32640, 32642, 32644],
   [32646, 32648, 32650, 32652, 32653, 32655, 32657, 32659, 32660, 32662, 32664],
   [32665, 32667, 32668, 32670, 32671, 32673, 32674, 32676, 32677, 32679, 32680],
   [32681, 32683, 32684, 32685, 32686, 32688, 32689, 32690, 32691, 32693, 32694],
   [32695, 32696, 32697, 32698, 32699, 32700, 32701, 32702, 32703, 32704, 32705],
   [32706, 32707, 32708, 32709, 32710, 32711, 32712, 32713, 32713, 32714, 32715],
   [32716, 32717, 32718, 32718, 32719, 32720, 32721, 32721, 32722, 32723, 32723],
   [32724, 32725, 32725, 32726, 32727, 32727, 32728, 32729, 32729, 32730, 32730]]

/-- `squash(x)` for `x` from 435, eleven values a row (R590). -/
def squashRows4 : List (List Nat) :=
  [[32731, 32731, 32732, 32733, 32733, 32734, 32734, 32735, 32735, 32736, 32736],
   [32737, 32737, 32738, 32738, 32739, 32739, 32739, 32740, 32740, 32741, 32741],
   [32742, 32742, 32742, 32743, 32743, 32744, 32744, 32744, 32745, 32745, 32745],
   [32746, 32746, 32746, 32747, 32747, 32747, 32748, 32748, 32748, 32749, 32749],
   [32749, 32749, 32750, 32750, 32750, 32750, 32751, 32751, 32751, 32752, 32752],
   [32752, 32752, 32752, 32753, 32753, 32753, 32753, 32754, 32754, 32754, 32754],
   [32754, 32755, 32755, 32755, 32755, 32755, 32756, 32756, 32756, 32756, 32756],
   [32757, 32757, 32757, 32757, 32757, 32757, 32757, 32758, 32758, 32758, 32758],
   [32758, 32758, 32759, 32759, 32759, 32759, 32759, 32759, 32759, 32759, 32760],
   [32760, 32760, 32760, 32760, 32760, 32760, 32760, 32761, 32761, 32761, 32761],
   [32761, 32761, 32761, 32761, 32761, 32761, 32762, 32762, 32762, 32762, 32762],
   [32762, 32762, 32762, 32762, 32762, 32762, 32762, 32763, 32763, 32763, 32763],
   [32763, 32763, 32763, 32763, 32763, 32763, 32763, 32763, 32763, 32763, 32764],
   [32764, 32764, 32764, 32764, 32764, 32764, 32764, 32764, 32764, 32764, 32764],
   [32764, 32764, 32764, 32764, 32764, 32764, 32764, 32765, 32765, 32765, 32765],
   [32765, 32765, 32765, 32765, 32765, 32765, 32765, 32765, 32765, 32765, 32765],
   [32765, 32765, 32765, 32765, 32765, 32765, 32765, 32765, 32765, 32765, 32765],
   [32766, 32766, 32766, 32766, 32766, 32766, 32766, 32766, 32766, 32766, 32766],
   [32766, 32766, 32766, 32766, 32766, 32766, 32766, 32766, 32766, 32766, 32766],
   [32766, 32766, 32766, 32766, 32766, 32766, 32766, 32766, 32766, 32766, 32766],
   [32766, 32766, 32766, 32766, 32766, 32766, 32766, 32766, 32766, 32766, 32766]]

/-- `squash(x)` for `x = -665 .. 665`, row by row (R590). -/
def squashRows : List (List Nat) :=
  squashRows0 ++ squashRows1 ++ squashRows2 ++ squashRows3 ++ squashRows4

/-- `squash(x)`, the inverse logit, for `-2048 <= x <= 2047` (R381, R590); outside that range, where no caller is, it
keeps the end's value (log 20). -/
def squash (x : Int) : Nat :=
  if x ≤ -666 then 0
  else if 666 ≤ x then 32767
  else
    let k := (x + 665).toNat
    (squashRows.getD (k / 11) []).getD (k % 11) 0

/-- The thresholds `T[v]` for `v` from -709, ten a row (R591). -/
def stretchRows0 : List (List Nat) :=
  [[1, 1, 1, 1, 1, 1, 1, 1, 1, 1],
   [1, 1, 1, 1, 1, 1, 1, 1, 1, 1],
   [1, 1, 1, 1, 1, 1, 1, 1, 1, 1],
   [1, 1, 1, 1, 1, 1, 1, 1, 1, 1],
   [1, 1, 1, 1, 1, 1, 1, 1, 1, 1],
   [1, 1, 1, 1, 1, 1, 1, 1, 1, 1],
   [1, 1, 1, 1, 1, 1, 1, 1, 1, 1],
   [1, 2, 2, 2, 2, 2, 2, 2, 2, 2],
   [2, 2, 2, 2, 2, 2, 2, 2, 2, 2],
   [2, 2, 2, 2, 2, 2, 2, 2, 2, 2],
   [2, 2, 2, 3, 3, 3, 3, 3, 3, 3],
   [3, 3, 3, 3, 3, 3, 3, 3, 3, 3],
   [3, 3, 3, 3, 3, 4, 4, 4, 4, 4],
   [4, 4, 4, 4, 4, 4, 4, 4, 4, 4],
   [4, 5, 5, 5, 5, 5, 5, 5, 5, 5],
   [5, 5, 5, 5, 6, 6, 6, 6, 6, 6],
   [6, 6, 6, 6, 7, 7, 7, 7, 7, 7],
   [7, 7, 7, 7, 8, 8, 8, 8, 8, 8],
   [8, 8, 9, 9, 9, 9, 9, 9, 9, 10],
   [10, 10, 10, 10, 10, 11, 11, 11, 11, 11],
   [11, 12, 12, 12, 12, 12, 13, 13, 13, 13],
   [13, 14, 14, 14, 14, 14, 15, 15, 15, 15],
   [16, 16, 16, 16, 17, 17, 17, 17, 18, 18],
   [18, 19, 19, 19, 19, 20, 20, 20, 21, 21]]

/-- The thresholds `T[v]` for `v` from -469, ten a row (R591). -/
def stretchRows1 : List (List Nat) :=
  [[21, 22, 22, 22, 23, 23, 23, 24, 24, 25],
   [25, 25, 26, 26, 27, 27, 27, 28, 28, 29],
   [29, 30, 30, 31, 31, 32, 32, 33, 33, 34],
   [34, 35, 35, 36, 36, 37, 37, 38, 39, 39],
   [40, 40, 41, 42, 42, 43, 44, 44, 45, 46],
   [47, 47, 48, 49, 50, 50, 51, 52, 53, 54],
   [54, 55, 56, 57, 58, 59, 60, 61, 62, 63],
   [64, 65, 66, 67, 68, 69, 70, 71, 72, 73],
   [74, 76, 77, 78, 79, 80, 82, 83, 84, 86],
   [87, 88, 90, 91, 92, 94, 95, 97, 98, 100],
   [102, 103, 105, 106, 108, 110, 112, 113, 115, 117],
   [119, 121, 122, 124, 126, 128, 130, 132, 134, 137],
   [139, 141, 143, 145, 148, 150, 152, 155, 157, 159],
   [162, 165, 167, 170, 172, 175, 178, 181, 183, 186],
   [189, 192, 195, 198, 201, 205, 208, 211, 214, 218],
   [221, 224, 228, 232, 235, 239, 243, 246, 250, 254],
   [258, 262, 266, 270, 275, 279, 283, 288, 292, 297],
   [301, 306, 311, 316, 321, 326, 331, 336, 341, 346],
   [352, 357, 363, 368, 374, 380, 386, 392, 398, 404],
   [411, 417, 423, 430, 437, 443, 450, 457, 464, 472],
   [479, 486, 494, 502, 509, 517, 525, 533, 542, 550],
   [559, 567, 576, 585, 594, 603, 612, 622, 631, 641],
   [651, 661, 671, 682, 692, 703, 714, 725, 736, 747],
   [759, 770, 782, 794, 806, 819, 831, 844, 857, 870]]

/-- The thresholds `T[v]` for `v` from -229, ten a row (R591). -/
def stretchRows2 : List (List Nat) :=
  [[884, 897, 911, 925, 939, 953, 968, 983, 998, 1013],
   [1028, 1044, 1060, 1076, 1092, 1109, 1126, 1143, 1160, 1178],
   [1196, 1214, 1232, 1251, 1270, 1289, 1309, 1328, 1348, 1369],
   [1389, 1410, 1432, 1453, 1475, 1497, 1520, 1543, 1566, 1589],
   [1613, 1637, 1662, 1686, 1712, 1737, 1763, 1789, 1816, 1843],
   [1870, 1898, 1926, 1955, 1983, 2013, 2042, 2073, 2103, 2134],
   [2165, 2197, 2230, 2262, 2295, 2329, 2363, 2397, 2432, 2468],
   [2504, 2540, 2577, 2614, 2652, 2690, 2729, 2769, 2809, 2849],
   [2890, 2931, 2973, 3016, 3059, 3102, 3147, 3191, 3237, 3282],
   [3329, 3376, 3424, 3472, 3521, 3570, 3620, 3671, 3722, 3774],
   [3826, 3879, 3933, 3987, 4042, 4098, 4154, 4212, 4269, 4328],
   [4387, 4446, 4507, 4568, 4630, 4692, 4755, 4819, 4884, 4949],
   [5015, 5082, 5149, 5217, 5286, 5356, 5426, 5497, 5569, 5642],
   [5715, 5789, 5864, 5940, 6016, 6093, 6171, 6250, 6329, 6409],
   [6490, 6572, 6654, 6738, 6822, 6906, 6992, 7078, 7165, 7253],
   [7342, 7431, 7521, 7612, 7704, 7796, 7890, 7984, 8078, 8174],
   [8270, 8367, 8465, 8563, 8662, 8762, 8863, 8964, 9067, 9169],
   [9273, 9377, 9482, 9588, 9694, 9801, 9909, 10017, 10126, 10236],
   [10346, 10457, 10569, 10681, 10794, 10907, 11021, 11135, 11251, 11366],
   [11483, 11599, 11717, 11835, 11953, 12072, 12191, 12311, 12431, 12552],
   [12673, 12795, 12917, 13040, 13163, 13286, 13409, 13533, 13658, 13782],
   [13907, 14032, 14158, 14284, 14410, 14536, 14662, 14789, 14916, 15043],
   [15170, 15298, 15425, 15553, 15680, 15808, 15936, 16064, 16192, 16320],
   [16448, 16576, 16704, 16832, 16960, 17088, 17215, 17343, 17470, 17598]]

/-- The thresholds `T[v]` for `v` from 11, ten a row (R591). -/
def stretchRows3 : List (List Nat) :=
  [[17725, 17852, 17979, 18106, 18232, 18358, 18484, 18610, 18736, 18861],
   [18986, 19110, 19235, 19359, 19482, 19605, 19728, 19851, 19973, 20095],
   [20216, 20337, 20457, 20577, 20696, 20815, 20933, 21051, 21169, 21285],
   [21402, 21517, 21633, 21747, 21861, 21974, 22087, 22199, 22311, 22422],
   [22532, 22642, 22751, 22859, 22967, 23074, 23180, 23286, 23391, 23495],
   [23599, 23701, 23804, 23905, 24006, 24106, 24205, 24303, 24401, 24498],
   [24594, 24690, 24784, 24878, 24972, 25064, 25156, 25247, 25337, 25426],
   [25515, 25603, 25690, 25776, 25862, 25946, 26030, 26114, 26196, 26278],
   [26359, 26439, 26518, 26597, 26675, 26752, 26828, 26904, 26979, 27053],
   [27126, 27199, 27271, 27342, 27412, 27482, 27551, 27619, 27686, 27753],
   [27819, 27884, 27949, 28013, 28076, 28138, 28200, 28261, 28322, 28381],
   [28440, 28499, 28556, 28614, 28670, 28726, 28781, 28835, 28889, 28942],
   [28994, 29046, 29097, 29148, 29198, 29247, 29296, 29344, 29392, 29439],
   [29486, 29531, 29577, 29621, 29666, 29709, 29752, 29795, 29837, 29878],
   [29919, 29959, 29999, 30039, 30078, 30116, 30154, 30191, 30228, 30264],
   [30300, 30336, 30371, 30405, 30439, 30473, 30506, 30538, 30571, 30603],
   [30634, 30665, 30695, 30726, 30755, 30785, 30813, 30842, 30870, 30898],
   [30925, 30952, 30979, 31005, 31031, 31056, 31082, 31106, 31131, 31155],
   [31179, 31202, 31225, 31248, 31271, 31293, 31315, 31336, 31358, 31379],
   [31399, 31420, 31440, 31459, 31479, 31498, 31517, 31536, 31554, 31572],
   [31590, 31608, 31625, 31642, 31659, 31676, 31692, 31708, 31724, 31740],
   [31755, 31770, 31785, 31800, 31815, 31829, 31843, 31857, 31871, 31884],
   [31898, 31911, 31924, 31937, 31949, 31962, 31974, 31986, 31998, 32009],
   [32021, 32032, 32043, 32054, 32065, 32076, 32086, 32097, 32107, 32117]]

/-- The thresholds `T[v]` for `v` from 251, ten a row (R591). -/
def stretchRows4 : List (List Nat) :=
  [[32127, 32137, 32146, 32156, 32165, 32174, 32183, 32192, 32201, 32209],
   [32218, 32226, 32235, 32243, 32251, 32259, 32266, 32274, 32282, 32289],
   [32296, 32304, 32311, 32318, 32325, 32331, 32338, 32345, 32351, 32357],
   [32364, 32370, 32376, 32382, 32388, 32394, 32400, 32405, 32411, 32416],
   [32422, 32427, 32432, 32437, 32442, 32447, 32452, 32457, 32462, 32467],
   [32471, 32476, 32480, 32485, 32489, 32493, 32498, 32502, 32506, 32510],
   [32514, 32518, 32522, 32525, 32529, 32533, 32536, 32540, 32544, 32547],
   [32550, 32554, 32557, 32560, 32563, 32567, 32570, 32573, 32576, 32579],
   [32582, 32585, 32587, 32590, 32593, 32596, 32598, 32601, 32603, 32606],
   [32609, 32611, 32613, 32616, 32618, 32620, 32623, 32625, 32627, 32629],
   [32631, 32634, 32636, 32638, 32640, 32642, 32644, 32646, 32647, 32649],
   [32651, 32653, 32655, 32656, 32658, 32660, 32662, 32663, 32665, 32666],
   [32668, 32670, 32671, 32673, 32674, 32676, 32677, 32678, 32680, 32681],
   [32682, 32684, 32685, 32686, 32688, 32689, 32690, 32691, 32692, 32694],
   [32695, 32696, 32697, 32698, 32699, 32700, 32701, 32702, 32703, 32704],
   [32705, 32706, 32707, 32708, 32709, 32710, 32711, 32712, 32713, 32714],
   [32714, 32715, 32716, 32717, 32718, 32718, 32719, 32720, 32721, 32721],
   [32722, 32723, 32724, 32724, 32725, 32726, 32726, 32727, 32728, 32728],
   [32729, 32729, 32730, 32731, 32731, 32732, 32732, 32733, 32733, 32734],
   [32734, 32735, 32735, 32736, 32736, 32737, 32737, 32738, 32738, 32739],
   [32739, 32740, 32740, 32741, 32741, 32741, 32742, 32742, 32743, 32743],
   [32743, 32744, 32744, 32745, 32745, 32745, 32746, 32746, 32746, 32747],
   [32747, 32747, 32748, 32748, 32748, 32749, 32749, 32749, 32749, 32750],
   [32750, 32750, 32751, 32751, 32751, 32751, 32752, 32752, 32752, 32752]]

/-- The thresholds `T[v]` for `v` from 491, ten a row (R591). -/
def stretchRows5 : List (List Nat) :=
  [[32753, 32753, 32753, 32753, 32754, 32754, 32754, 32754, 32754, 32755],
   [32755, 32755, 32755, 32755, 32756, 32756, 32756, 32756, 32756, 32757],
   [32757, 32757, 32757, 32757, 32757, 32758, 32758, 32758, 32758, 32758],
   [32758, 32759, 32759, 32759, 32759, 32759, 32759, 32759, 32760, 32760],
   [32760, 32760, 32760, 32760, 32760, 32760, 32761, 32761, 32761, 32761],
   [32761, 32761, 32761, 32761, 32761, 32761, 32762, 32762, 32762, 32762],
   [32762, 32762, 32762, 32762, 32762, 32762, 32763, 32763, 32763, 32763],
   [32763, 32763, 32763, 32763, 32763, 32763, 32763, 32763, 32763, 32764],
   [32764, 32764, 32764, 32764, 32764, 32764, 32764, 32764, 32764, 32764],
   [32764, 32764, 32764, 32764, 32764, 32765, 32765, 32765, 32765, 32765],
   [32765, 32765, 32765, 32765, 32765, 32765, 32765, 32765, 32765, 32765],
   [32765, 32765, 32765, 32765, 32765, 32765, 32765, 32766, 32766, 32766],
   [32766, 32766, 32766, 32766, 32766, 32766, 32766, 32766, 32766, 32766],
   [32766, 32766, 32766, 32766, 32766, 32766, 32766, 32766, 32766, 32766],
   [32766, 32766, 32766, 32766, 32766, 32766, 32766, 32766, 32766, 32767],
   [32767, 32767, 32767, 32767, 32767, 32767, 32767, 32767, 32767, 32767],
   [32767, 32767, 32767, 32767, 32767, 32767, 32767, 32767, 32767, 32767],
   [32767, 32767, 32767, 32767, 32767, 32767, 32767, 32767, 32767, 32767],
   [32767, 32767, 32767, 32767, 32767, 32767, 32767, 32767, 32767, 32767],
   [32767, 32767, 32767, 32767, 32767, 32767, 32767, 32767, 32767, 32767],
   [32767, 32767, 32767, 32767, 32767, 32767, 32767, 32767, 32767, 32767],
   [32767, 32767, 32767, 32767, 32767, 32767, 32767, 32767, 32767, 32767]]

/-- The thresholds `T[v]`, `v = -709 .. 710`: the least `p` with `stretch(p) >= v` (R591). -/
def stretchRows : List (List Nat) :=
  stretchRows0 ++ stretchRows1 ++ stretchRows2 ++ stretchRows3 ++ stretchRows4 ++ stretchRows5

/-- How many thresholds of a row are at most `p`. -/
def thresholdsUpTo (p : Nat) (row : List Nat) : Nat := row.countP (fun t => decide (t ≤ p))

/-- `stretch(p)`, the logit, for `0 <= p <= 32767`: `-710` and one for each threshold that is at most `p` (R382, R591). -/
def stretch (p : Nat) : Int := -710 + ((stretchRows.map (thresholdsUpTo p)).sum : Nat)

/-- `dt[i]`, the adaptation rates of CM and SSE, `i = 0 .. 1023` (R384). -/
def dt (i : Nat) : Nat := 2 * (2 ^ 17 / (2 * i + 3))

/-- `dt2k[i]`, the match confidence, `i = 0 .. 255` (R385). -/
def dt2k (i : Nat) : Nat := if i = 0 then 0 else 2048 / i

/-- `clamp(v, lo, hi)` (R7). -/
def clamp (v lo hi : Int) : Int := if v < lo then lo else if hi < v then hi else v

/-- The 12-bit signed range of mixer outputs (R386). -/
def clamp2k (x : Int) : Int := clamp x (-2048) 2047

/-- The 20-bit signed range of mixer weights (R386). -/
def clamp512k (x : Int) : Int := clamp x (-524288) 524287

/-- `v >> k`, the shift that rounds toward minus infinity (R7). -/
def floorShift (v : Int) (k : Nat) : Int := v / 2 ^ k

end Sys2Proof.Machine
end

