-- ==== Sys2Proof/Machine/Components.lean ====
section
/-! DEFINITION. The predictor bank: the component records and their tables (R33 to R42), `predict` (R420 to R429) and
`update` (R430 to R449, R462, R463). -/

namespace Sys2Proof.Machine

/-! ### Tables of a component -/

/-- The number of cells of `cm` (R35 to R37, R40 to R42). -/
def cmLength : CompDesc → Nat
  | .const _ => 0
  | .cm s _ => 2 ^ s.toNat
  | .icm _ => 256
  | .matchModel s _ => 2 ^ s.toNat
  | .avg .. => 0
  | .mix2 .. => 0
  | .mix s _ m _ _ => m.toNat * 2 ^ s.toNat
  | .isse .. => 512
  | .sse s .. => 32 * 2 ^ s.toNat

/-- The number of bytes of `ht` (R36, R37, R41). -/
def htLength : CompDesc → Nat
  | .icm s => 64 * 2 ^ s.toNat
  | .matchModel _ b => 2 ^ b.toNat
  | .isse s _ => 64 * 2 ^ s.toNat
  | _ => 0

/-- The number of weights of `a16` (R39). -/
def a16Length : CompDesc → Nat
  | .mix2 s .. => 2 ^ s.toNat
  | _ => 0

/-- The second weight of an ISSE's pair for state `s` at reset (R41). -/
def isseBias (s : Nat) : Word := u32 (clamp512k (stretch (cminit s >>> 8) * 1024))

/-- Cell `j` of an SSE at reset (R42). -/
def sseCell (start : Byte) (j : Nat) : Word :=
  BitVec.ofNat 32 (squash (((j % 32 : Nat) : Int) * 64 - 992) * 2 ^ 17 + start.toNat)

/-- What cell `k` of `cm` holds at reset (R35 to R37, R40 to R42). -/
def cmReset (d : CompDesc) (k : Nat) : Word :=
  match d with
  | .cm .. => 0x80000000
  | .icm _ => BitVec.ofNat 32 (cminit k)
  | .mix _ _ m _ _ => BitVec.ofNat 32 (65536 / m.toNat)
  | .isse .. => if k % 2 = 0 then 32768 else isseBias (k / 2)
  | .sse _ _ start _ => sseCell start k
  | _ => 0

/-- Read and write the tables, every index reduced modulo the table's length (R33, R89, log 13). -/
def Component.readCm (k : Component) (j : Nat) : Word :=
  let j := j % cmLength k.desc
  peek (cmReset k.desc j) k.cm j

def Component.writeCm (k : Component) (j : Nat) (v : Word) : Component :=
  let j := j % cmLength k.desc
  { k with cm := poke (cmReset k.desc j) k.cm j v }

def Component.readHt (k : Component) (j : Nat) : Byte := peek 0 k.ht (j % htLength k.desc)

def Component.writeHt (k : Component) (j : Nat) (v : Byte) : Component :=
  { k with ht := poke 0 k.ht (j % htLength k.desc) v }

/-- The reset value of a MIX2 weight is 32768 (R39). -/
def Component.readA16 (k : Component) (j : Nat) : BitVec 16 := peek 32768 k.a16 (j % a16Length k.desc)

def Component.writeA16 (k : Component) (j : Nat) (v : BitVec 16) : Component :=
  { k with a16 := poke 32768 k.a16 (j % a16Length k.desc) v }

/-- A weight of MIX or ISSE: the signed value of its cell (R40, R41). -/
def Component.weight (k : Component) (j : Nat) : Int := (k.readCm j).toInt

/-- `cxt <- v`: the index `v` is selected; 32 bits of it are in `cxt`, the rest in `cxtTop` (R33, R39, R40, log 15). -/
def Component.select (k : Component) (v : Nat) : Component := { k with cxt := BitVec.ofNat 32 v, cxtTop := v / 2 ^ 32 }

/-- The index that the last `select` selected, exactly (R35, R39, R40). -/
def Component.selected (k : Component) : Nat := 2 ^ 32 * k.cxtTop + k.cxt.toNat

/-- A component at reset (R34 to R42): the tables hold their reset values, `limit` of CM and SSE is `4 * limit_arg`, `c`
of MIX2 and MIX is `2^sizebits` (log 14), everything else is 0. -/
def Component.init (d : CompDesc) : Component :=
  { desc := d, cxt := 0, cxtTop := 0, a := 0, b := 0
    c := match d with
      | .mix2 s .. => 2 ^ s.toNat
      | .mix s .. => 2 ^ s.toNat
      | _ => 0
    limit := match d with
      | .cm _ limit => 4 * limit.toNat
      | .sse _ _ _ limit => 4 * limit.toNat
      | _ => 0
    cm := [], ht := [], a16 := [] }

/-! ### Predict -/

/-- `p[j]` (R30). -/
def pAt (p : List (Nat × Int)) (j : Nat) : Int := peek 0 p j

/-- The predictor registers a component's `predict` and `update` read, `h` being its own context hash `h[i]`. -/
structure CompInput where
  h : Word
  c8 : Nat
  hmap4 : Nat
  p : List (Nat × Int)

/-- The slot of the current row: `c + (hmap4 and 15)` (R422). -/
def Component.slot (k : Component) (x : CompInput) : Nat := k.c + (x.hmap4 &&& 15)

/-- CM (R421). -/
def predictCm (s : Byte) (x : CompInput) (k : Component) : Component × Int :=
  let k := k.select ((x.h.toNat ^^^ x.hmap4) % 2 ^ s.toNat)
  (k, stretch ((k.readCm k.selected).toNat >>> 17))

/-- The row lookup of ICM and ISSE at the first and the fifth bit of a byte (R422, R427). -/
def Component.lookup (s : Byte) (x : CompInput) (k : Component) : Component :=
  if x.c8 = 1 ∨ x.c8 &&& 0xF0 = 16 then
    let r := findRow k.ht (s.toNat + 2) ((x.h.toNat + 16 * x.c8) % 2 ^ 32)
    { k with c := r.1, ht := r.2 }
  else k

/-- ICM (R422). -/
def predictIcm (s : Byte) (x : CompInput) (k : Component) : Component × Int :=
  let k := k.lookup s x
  let k := { k with cxt := (k.readHt (k.slot x)).setWidth 32 }
  (k, stretch ((k.readCm k.cxt.toNat).toNat >>> 8))

/-- MATCH (R423). -/
def predictMatch (b : Byte) (k : Component) : Component × Int :=
  if k.a = 0 then (k, 0)
  else
    let at_ := (((k.limit : Int) - k.b.toNat) % 2 ^ b.toNat).toNat
    let k := { k with c := ((k.readHt at_).toNat >>> (7 - k.cxt.toNat)) &&& 1 }
    (k, stretch (((dt2k k.a : Int) * (1 - 2 * (k.c : Int))) % 32768).toNat)

/-- AVG (R424). -/
def predictAvg (j k wt : Byte) (x : CompInput) : Int :=
  floorShift (pAt x.p j.toNat * wt.toNat + pAt x.p k.toNat * (256 - wt.toNat)) 8

/-- The context of a mixer before it selects a row: `(h[i] + (c8 and mask)) mod 2^sizebits` (R425, R426). -/
def mixContext (s mask : Byte) (x : CompInput) : Nat := (x.h.toNat + (x.c8 &&& mask.toNat)) % 2 ^ s.toNat

/-- MIX2 (R425). -/
def predictMix2 (s j l mask : Byte) (x : CompInput) (k : Component) : Component × Int :=
  let k := k.select (mixContext s mask x)
  let w : Int := (k.readA16 k.selected).toNat
  (k, floorShift (w * pAt x.p j.toNat + (65536 - w) * pAt x.p l.toNat) 16)

/-- MIX (R426). -/
def predictMix (s j m mask : Byte) (x : CompInput) (k : Component) : Component × Int :=
  let k := k.select (mixContext s mask x * m.toNat)
  let sum := ((List.range m.toNat).map fun t => floorShift (k.weight (k.selected + t)) 8 * pAt x.p (j.toNat + t)).sum
  (k, clamp2k (floorShift sum 8))

/-- ISSE (R427). -/
def predictIsse (s j : Byte) (x : CompInput) (k : Component) : Component × Int :=
  let k := k.lookup s x
  let k := { k with cxt := (k.readHt (k.slot x)).setWidth 32 }
  let st := k.cxt.toNat
  (k, clamp2k (floorShift (k.weight (2 * st) * pAt x.p j.toNat + k.weight (2 * st + 1) * 64) 16))

/-- SSE (R428). -/
def predictSse (j : Byte) (x : CompInput) (k : Component) : Component × Int :=
  let pq := (clamp (pAt x.p j.toNat + 992) 0 1983).toNat
  let wt := pq &&& 63
  let cx := ((x.h.toNat + x.c8) * 32 + pq >>> 6) % 2 ^ 32
  let lower := (k.readCm cx).toNat >>> 10
  let upper := (k.readCm (cx + 1)).toNat >>> 10
  ({ k with cxt := u32 ((cx + wt >>> 5 : Nat) : Int) }, stretch ((lower * (64 - wt) + upper * wt) >>> 13))

/-- `predict` of one component: its record and its new `p[i]`, none for CONST, whose `p[i]` is set at load (R420). -/
def predictOne (x : CompInput) (k : Component) : Component × Option Int :=
  let out := fun (r : Component × Int) => (r.1, some r.2)
  match k.desc with
  | .const _ => (k, none)
  | .cm s _ => out (predictCm s x k)
  | .icm s => out (predictIcm s x k)
  | .matchModel _ b => out (predictMatch b k)
  | .avg j l wt => (k, some (predictAvg j l wt x))
  | .mix2 s j l _ mask => out (predictMix2 s j l mask x k)
  | .mix s j m _ mask => out (predictMix s j m mask x k)
  | .isse s j => out (predictIsse s j x k)
  | .sse _ j _ _ => out (predictSse j x k)

/-- Write `p[i]`. -/
def setP (p : List (Nat × Int)) (i : Nat) : Option Int → List (Nat × Int)
  | none => p
  | some v => poke 0 p i v

/-- The components `i, i+1, …` in order, each seeing the `p[]` of the lower ones (R429). -/
def predictFrom (h : List (Nat × Word)) (c8 hmap4 : Nat) :
    Nat → List Component → List (Nat × Int) → List Component × List (Nat × Int)
  | _, [], p => ([], p)
  | i, k :: ks, p =>
    let r := predictOne { h := peek 0 h i, c8 := c8, hmap4 := hmap4, p := p } k
    let rest := predictFrom h c8 hmap4 (i + 1) ks (setP p i r.2)
    (r.1 :: rest.1, rest.2)

/-- `predict()`: the predictor after it (R429). -/
def Predictor.predict (q : Predictor) : Predictor :=
  let r := predictFrom q.h q.c8.toNat q.hmap4.toNat 0 q.comps q.p
  { q with comps := r.1, p := r.2 }

/-- What `predict()` returns: the last component's output squashed, the probability that the next bit is 1 in units of
1/32768 (R429). -/
def Predictor.p1 (q : Predictor) : Nat := squash (pAt q.p (q.comps.length - 1))

/-! ### Update -/

/-- A bit as an integer. -/
def bitInt (y : Bool) : Int := if y then 1 else 0

/-- The new cell of `train` (R431): exact integers, one reduction modulo 2^32. -/
def trainCell (pn : Word) (limit : Nat) (y : Bool) : Word :=
  let count := pn.toNat &&& 0x3FF
  let error := bitInt y * 32767 - (pn.toNat >>> 17 : Nat)
  u32 ((pn.toNat : Int) + 1024 * floorShift (error * dt count) 10 + (if count < limit then 1 else 0))

/-- `train(cm, j, limit, y)` (R431). -/
def Component.train (k : Component) (j : Nat) (y : Bool) : Component :=
  k.writeCm j (trainCell (k.readCm j) k.limit y)

/-- ICM (R442). -/
def updateIcm (x : CompInput) (y : Bool) (k : Component) : Component :=
  let k := k.writeHt (k.slot x) (nextState (k.readHt (k.slot x)) y)
  let pn := (k.readCm k.cxt.toNat).toNat
  k.writeCm k.cxt.toNat (u32 ((pn : Int) + floorShift (bitInt y * 32767 - (pn >>> 8 : Nat)) 2))

/-- The match length found by comparing backwards from `limit`, at most 255 (R443). -/
def matchLength (k : Component) (b : Byte) : Nat → Nat → Nat
  | 0, a => a
  | fuel + 1, a =>
    let back := fun (d : Int) => k.readHt (((k.limit : Int) - d) % 2 ^ b.toNat).toNat
    if a < 255 ∧ back (a + 1) = back (a + k.b.toNat + 1) then matchLength k b fuel (a + 1) else a

/-- MATCH at a byte boundary (R443). An index cell holds the low 32 bits of the position: `b` is a difference modulo 2^32, for
which they are the position (log 15). -/
def matchByte (s b : Byte) (x : CompInput) (k : Component) : Component :=
  let k := { k with cxt := 0, limit := (k.limit + 1) % 2 ^ b.toNat }
  let hi := x.h.toNat % 2 ^ s.toNat
  let k :=
    if k.a = 0 then
      let k := { k with b := u32 ((k.limit : Int) - (k.readCm hi).toNat) }
      if k.b.toNat % 2 ^ b.toNat ≠ 0 then { k with a := matchLength k b 255 k.a } else k
    else if k.a < 255 then { k with a := k.a + 1 }
    else k
  k.writeCm hi (BitVec.ofNat 32 k.limit)

/-- MATCH (R443). -/
def updateMatch (s b : Byte) (x : CompInput) (y : Bool) (k : Component) : Component :=
  let k := if (k.c : Int) ≠ bitInt y then { k with a := 0 } else k
  let k := k.writeHt k.limit (BitVec.ofNat 8 (2 * (k.readHt k.limit).toNat + y.toNat))
  let k := { k with cxt := k.cxt + 1 }
  if k.cxt = 8 then matchByte s b x k else k

/-- The mixers' error term `err0` (R447). -/
def mixError (y : Bool) (pi : Int) : Int := bitInt y * 32767 - squash pi

/-- MIX2 (R445). -/
def updateMix2 (j l rate : Byte) (x : CompInput) (pi : Int) (y : Bool) (k : Component) : Component :=
  let err := floorShift (mixError y pi * rate.toNat) 5
  let w := (k.readA16 k.selected).toNat + floorShift (err * (pAt x.p j.toNat - pAt x.p l.toNat) + 4096) 13
  k.writeA16 k.selected (BitVec.ofInt 16 (clamp w 0 65535))

/-- The weights of the selected row, `t` of them trained (R446). -/
def mixTrain (j : Byte) (x : CompInput) (err : Int) : Nat → Component → Component
  | 0, k => k
  | t + 1, k =>
    let k := mixTrain j x err t k
    k.writeCm (k.selected + t)
      (u32 (clamp512k (k.weight (k.selected + t) + floorShift (err * pAt x.p (j.toNat + t) + 4096) 13)))

/-- MIX (R446). -/
def updateMix (j m rate : Byte) (x : CompInput) (pi : Int) (y : Bool) (k : Component) : Component :=
  mixTrain j x (floorShift (mixError y pi * rate.toNat) 4) m.toNat k

/-- ISSE (R448). -/
def updateIsse (j : Byte) (x : CompInput) (pi : Int) (y : Bool) (k : Component) : Component :=
  let err := mixError y pi
  let st := k.cxt.toNat
  let k := k.writeCm (2 * st) (u32 (clamp512k (k.weight (2 * st) + floorShift (err * pAt x.p j.toNat + 4096) 13)))
  let k := k.writeCm (2 * st + 1) (u32 (clamp512k (k.weight (2 * st + 1) + floorShift (err + 16) 5)))
  k.writeHt (k.slot x) (nextState (BitVec.ofNat 8 st) y)

/-- `update` of one component, `pi` being its own output of the preceding `predict` (R440 to R449). -/
def updateOne (x : CompInput) (pi : Int) (y : Bool) (k : Component) : Component :=
  match k.desc with
  | .const _ => k
  | .cm _ _ => k.train k.selected y
  | .icm _ => updateIcm x y k
  | .matchModel s b => updateMatch s b x y k
  | .avg _ _ _ => k
  | .mix2 _ j l rate _ => updateMix2 j l rate x pi y k
  | .mix _ j m rate _ => updateMix j m rate x pi y k
  | .isse _ j => updateIsse j x pi y k
  | .sse _ _ _ _ => k.train k.cxt.toNat y

/-- The components `i, i+1, …` in order (R430). -/
def updateFrom (q : Predictor) (y : Bool) : Nat → List Component → List Component
  | _, [] => []
  | i, k :: ks =>
    updateOne { h := peek 0 q.h i, c8 := q.c8.toNat, hmap4 := q.hmap4.toNat, p := q.p } (pAt q.p i) y k ::
      updateFrom q y (i + 1) ks

/-- The training half of `update(y)`: every component, `c8` and `hmap4` as `predict` left them (R430). -/
def Predictor.train (q : Predictor) (y : Bool) : Predictor := { q with comps := updateFrom q y 0 q.comps }

/-- `c8` after a bit, `2*c8 + y` (R462). -/
def nextC8 (c8 : Nat) (y : Bool) : Nat := 2 * c8 + y.toNat

/-- `hmap4` after a bit that does not complete a byte, `c8` being the new value (R462). -/
def nextHmap4 (c8 hmap4 : Nat) (y : Bool) : Nat :=
  if 16 ≤ c8 ∧ c8 ≤ 31 then ((hmap4 &&& 15) * 32) ||| (y.toNat * 16) ||| 1
  else (hmap4 &&& 0x1F0) ||| (((hmap4 &&& 15) * 2 + y.toNat) &&& 15)

/-- The `c8`/`hmap4` advance of R462; at a byte boundary `hmap4` waits for the `run` to return. -/
def Predictor.advance (q : Predictor) (y : Bool) : Predictor :=
  let c8 := nextC8 q.c8.toNat y
  { q with c8 := BitVec.ofNat 9 c8
           hmap4 := if 256 ≤ c8 then q.hmap4 else BitVec.ofNat 9 (nextHmap4 c8 q.hmap4.toNat y) }

/-- `h[i] <- H[i mod HSIZE]` for the components from `i` on (R463). -/
def reloadFrom (z : Zpaql) : Nat → Nat → List (Nat × Word) → List (Nat × Word)
  | _, 0, h => h
  | i, count + 1, h => reloadFrom z (i + 1) count (poke 0 h i (z.readH (i % z.hsize)))

/-- After the HCOMP `run` has returned: `hmap4 <- 1`, `c8 <- 1`, the contexts are reloaded (R462, R463). -/
def Predictor.nextByte (q : Predictor) (z : Zpaql) : Predictor :=
  { q with c8 := 1, hmap4 := 1, h := reloadFrom z 0 q.comps.length q.h }

end Sys2Proof.Machine
end

