-- ==== Sys2Proof/Machine/Load.lean ====
section
/-! DEFINITION. `load(header)`, the only reset (R411, R560 to R566): the parse of the header (R73, R74), the checks of the
sizes and of the components (R411 to R419), and the building of the block's state. -/

namespace Sys2Proof.Machine

/-! ### The parse (R73, R74) -/

/-- A parsed header: its fixed bytes, its descriptors, the COMP section (all of it) and the HCOMP section. -/
structure ParsedHeader where
  header : Header
  descs : List CompDesc
  comp : List Byte
  hcomp : List Byte
  deriving DecidableEq, Repr

/-- A parse that ends with a fault: its cause and what the bytes before the faulting one have left (R538), the bytes of the
COMP and of the HCOMP section, whether the COMP terminator was among them, and the length of the HCOMP section, 0 until it
is found (log 17). -/
structure ParseFault where
  cause : CoreFault
  comp : List Byte
  hcomp : List Byte
  compEnded : Bool
  hlen : Nat
  deriving DecidableEq, Repr

/-- Split off the HCOMP section: the `hsize - (cend - 2)` bytes after the COMP section, of which there must be at least
one and the last must be 0 (R74). `bytes` are the header's, `code` what follows the COMP terminator. -/
def parseHcomp (hd : Header) (descs : List CompDesc) (bytes code : List Byte) : Except ParseFault ParsedHeader :=
  let cend := bytes.length - code.length
  let comp := bytes.take cend
  let hlen := hd.hsize.toNat + 2 - cend
  if hlen < 1 then .error { cause := .fmtHcompEnd, comp := comp, hcomp := [], compEnded := true, hlen := 0 }
  else if code.length < hlen then
    .error { cause := .fmtHeaderTruncated, comp := comp, hcomp := code, compEnded := true, hlen := hlen }
  else if code.getLast? ≠ some 0 then
    .error { cause := .fmtHcompEnd, comp := comp, hcomp := code.dropLast, compEnded := true, hlen := hlen }
  else .ok { header := hd, descs := descs, comp := comp, hcomp := code }

/-- A fault in the COMP section: its bytes but the last `left` were parsed. -/
def compFault (cause : CoreFault) (bytes : List Byte) (left : Nat) : ParseFault :=
  { cause := cause, comp := bytes.take (bytes.length - left), hcomp := [], compEnded := false, hlen := 0 }

/-- Parse the descriptors and the COMP terminator (R73, R74, R112). -/
def parseComp (hd : Header) (bytes rest : List Byte) : Except ParseFault ParsedHeader :=
  match decodeDescs hd.n.toNat rest with
  | .error .truncated => .error (compFault .fmtHeaderTruncated bytes 0)
  | .error (.unknownTag left) => .error (compFault .fmtCompTag bytes left.length)
  | .ok (_, []) => .error (compFault .fmtHeaderTruncated bytes 0)
  | .ok (descs, t :: code) =>
    if t = 0 then parseHcomp hd descs bytes code else .error (compFault .fmtCompEnd bytes (t :: code).length)

/-- Parse a header. It is the first `hsize + 2` bytes supplied; what follows belongs to the host (R74). A COMP section that
does not fit into them ends early (log 16). -/
def parseHeader (supplied : List Byte) : Except ParseFault ParsedHeader :=
  match supplied with
  | lo :: hi :: _ =>
    let bytes := supplied.take ((le16 lo hi) + 2)
    match bytes with
    | _ :: _ :: hh :: hm :: ph :: pm :: n :: rest =>
      parseComp { hsize := BitVec.ofNat 16 (le16 lo hi), hh := hh, hm := hm, ph := ph, pm := pm, n := n } bytes rest
    | _ => .error (compFault .fmtHeaderTruncated bytes 0)
  | _ => .error (compFault .fmtHeaderTruncated supplied 0)

/-! ### The checks (R411 to R419) -/

/-- The first size argument above its cap (R412 to R419): the byte that RES_COMP_SIZE records. When both `sizebits` and
`bufbits` of a MATCH exceed MAXMATCH, R414 and R533 do not say which it is: `sizebits` is reported. DESIGN CHOICE (log 19). -/
def oversize (caps : Caps) : CompDesc → Option Byte
  | .const _ => none
  | .cm s _ => if caps.maxCm < s.toNat then some s else none
  | .icm s => if caps.maxIcm < s.toNat then some s else none
  | .matchModel s b =>
    if caps.maxMatch < s.toNat then some s else if caps.maxMatch < b.toNat then some b else none
  | .avg .. => none
  | .mix2 s .. => if caps.maxMix < s.toNat then some s else none
  | .mix s .. => if caps.maxMix < s.toNat then some s else none
  | .isse s _ => if caps.maxIsse < s.toNat then some s else none
  | .sse s .. => if caps.maxSse < s.toNat then some s else none

/-- The check of the component numbers and of the initial count of component `i` (R415 to R419). -/
def checkArgs (i : Nat) : CompDesc → Option CoreFault
  | .const _ => none
  | .cm .. => none
  | .icm _ => none
  | .matchModel .. => none
  | .avg j k _ => if i ≤ j.toNat ∨ i ≤ k.toNat then some (.modelForwardRef i) else none
  | .mix2 _ j k _ _ => if i ≤ j.toNat ∨ i ≤ k.toNat then some (.modelForwardRef i) else none
  | .mix _ j m _ _ =>
    if i ≤ j.toNat then some (.modelForwardRef i)
    else if m.toNat < 1 ∨ i - j.toNat < m.toNat then some (.modelMixRange i)
    else none
  | .isse _ j => if i ≤ j.toNat then some (.modelForwardRef i) else none
  | .sse _ j start limit =>
    if i ≤ j.toNat then some (.modelForwardRef i)
    else if 4 * limit.toNat < start.toNat then some (.modelSseStart i)
    else none

/-- The check of component `i`: its sizes, then its arguments (R539). -/
def checkComponent (caps : Caps) (i : Nat) (d : CompDesc) : Option CoreFault :=
  match oversize caps d with
  | some size => some (.resCompSize size)
  | none => checkArgs i d

/-- The checks of the components `i, i+1, …` in order: the first failing one wins (R411). -/
def checkComponents (caps : Caps) : Nat → List CompDesc → Option CoreFault
  | _, [] => none
  | i, d :: ds =>
    match checkComponent caps i d with
    | some f => some f
    | none => checkComponents caps (i + 1) ds

/-- The components whose checks pass before the first that fails: `load` has built them, in order, when it fails (R411). -/
def builtComponents (caps : Caps) : Nat → List CompDesc → List CompDesc
  | _, [] => []
  | i, d :: ds =>
    match checkComponent caps i d with
    | some _ => []
    | none => d :: builtComponents caps (i + 1) ds

/-- The check of `hh` and `hm` (R411 step 2); `hh` is reported when both are too large (log 19). -/
def checkSizes (caps : Caps) (hd : Header) : Option CoreFault :=
  if caps.maxLog < hd.hh.toNat then some (.resHsize hd.hh)
  else if caps.maxLog < hd.hm.toNat then some (.resHsize hd.hm)
  else none

/-- Every check of `load` after the parse, in order: `hh` and `hm`, `n = 0`, the components (R411, R539). -/
def checkModel (caps : Caps) (hd : Header) (descs : List CompDesc) : Option CoreFault :=
  match checkSizes caps hd with
  | some f => some f
  | none => if descs = [] then some .modelNoComponents else checkComponents caps 0 descs

/-! ### The block's state (R49, R561 to R565) -/

/-- The program store: the COMP section, the guard gap of zeros and the HCOMP section (R73). -/
def programStore (comp hcomp : List Byte) : List Host.Cell :=
  pokeBytes (pokeBytes [] 0 comp) (comp.length + guardGap) hcomp

/-- The program store and its bounds after the parse, no instance created yet (R411 step 1). -/
def Zpaql.ofStore (x : ParsedHeader) : Zpaql :=
  let hbegin := x.comp.length + guardGap
  { Zpaql.blank with
    prog := programStore x.comp x.hcomp, cend := x.comp.length, hbegin := hbegin, hend := hbegin + x.hcomp.length }

/-- The HCOMP instance (R411 step 2, R561). -/
def Zpaql.ofHeader (x : ParsedHeader) : Zpaql :=
  { Zpaql.ofStore x with mbits := x.header.hm.toNat, hbits := x.header.hh.toNat }

/-- The program store and the bounds found when the parse faults (R538, log 17). -/
def Zpaql.ofParseFault (e : ParseFault) : Zpaql :=
  let hbegin := e.comp.length + guardGap
  { Zpaql.blank with
    prog := programStore e.comp e.hcomp
    cend := if e.compEnded then e.comp.length else 0
    hbegin := if e.compEnded then hbegin else 0
    hend := if e.hlen = 0 then 0 else hbegin + e.hlen }

/-- The header bytes 0 to 6 that stand in the store, 0 where the parse ended before (R73). -/
def Header.ofBytes (bytes : List Byte) : Header :=
  { hsize := BitVec.ofNat 16 (le16 (bytes.getD 0 0) (bytes.getD 1 0)), hh := bytes.getD 2 0, hm := bytes.getD 3 0
    ph := bytes.getD 4 0, pm := bytes.getD 5 0, n := bytes.getD 6 0 }

/-- `p[]` after load: `(c - 128) * 4` for a CONST component, 0 for every other (R34, R562). -/
def constOutputs : Nat → List CompDesc → List (Nat × Int) → List (Nat × Int)
  | _, [], p => p
  | i, .const c :: ds, p => constOutputs (i + 1) ds (poke 0 p i (((c.toNat : Int) - 128) * 4))
  | i, _ :: ds, p => constOutputs (i + 1) ds p

/-- The predictor (R562). -/
def Predictor.ofDescs (descs : List CompDesc) : Predictor :=
  { Predictor.blank with p := constOutputs 0 descs [], comps := descs.map Component.init }

/-- Discard the block: everything of the core but its caps and the host's side is as before the first `load` (R560). -/
def State.discard (s : State) (role : Role) : State :=
  { s with
    hcomp := .blank, pcomp := .blank, pred := .blank, coder := .reset, pp := .reset, fault := none
    header := .blank, role := role, loaded := false, inst := .hcomp, phase := .idle }

/-- The state after a successful `load` (R560). Only a decoding core has a PostProcessor and `curr` (R44, R500); in an encoding
core their records hold the same reset values. DESIGN CHOICE (log 21). -/
def State.install (s : State) (role : Role) (x : ParsedHeader) : State :=
  { s.discard role with
    hcomp := .ofHeader x, pred := .ofDescs x.descs, header := x.header, loaded := true
    reports := s.reports ++ [.loaded] }

/-- Parse and check a header (R411 steps 1 to 5). -/
def checkHeader (caps : Caps) (supplied : List Byte) : Except CoreFault ParsedHeader :=
  match parseHeader supplied with
  | .error e => .error e.cause
  | .ok x =>
    match checkModel caps x.header x.descs with
    | some f => .error f
    | none => .ok x

/-- What the steps of a failing `load` before the faulting one have left on the discarded core (R411, R536, R538): the bytes
parsed; after the parse, the program store with its bounds; after the check of `hh` and `hm`, the HCOMP instance and the
components below the bad one (log 17). -/
def State.builtBeforeFault (s : State) (role : Role) (supplied : List Byte) : State :=
  match parseHeader supplied with
  | .error e => { s.discard role with hcomp := .ofParseFault e, header := .ofBytes e.comp }
  | .ok x =>
    match checkSizes s.caps x.header with
    | some _ => { s.discard role with hcomp := .ofStore x, header := x.header }
    | none =>
      { s.discard role with
        hcomp := .ofHeader x, pred := .ofDescs (builtComponents s.caps 0 x.descs), header := x.header }

/-- `load(header)` (R411, R560): the block's state, or a faulted core, not loaded, with what was built before the fault
(R536). -/
def State.load (s : State) (role : Role) (supplied : List Byte) : State :=
  match checkHeader s.caps supplied with
  | .ok x => s.install role x
  | .error f => (s.builtBeforeFault role supplied).raise f

end Sys2Proof.Machine
end

