-- ==== Sys2Proof/Machine/PostProcessor.lean ====
section
/-! DEFINITION. The PostProcessor's `write` (R511 to R515) and the creation of the PCOMP instance (R76, R514). -/

namespace Sys2Proof.Machine

/-- The program store P' as state 3 prepares it: `ph` and `pm` at 4 and 5, zeros elsewhere (R76, R513). R514 sets `hend'` and
P'[0..1] when the program is complete, and no rule says what they hold before: `hend'` is `hbegin'`, an empty program, and
P'[0..1] are 0. DESIGN CHOICE (log 24). -/
def Zpaql.preparePcomp (hd : Header) : Zpaql :=
  { Zpaql.blank with
    prog := pokeBytes [] 4 [hd.ph, hd.pm], cend := pcompCend, hbegin := pcompCend + guardGap
    hend := pcompCend + guardGap }

/-- Byte `cnt` of the program arrives (R514). -/
def Zpaql.storeProgram (z : Zpaql) (cnt : Nat) (c : Byte) : Zpaql :=
  { z with prog := poke 0 z.prog (z.hbegin + cnt) c }

/-- The program is complete: `hend'`, and `hsize' = len + 6` in P'[0..1] (R76, R514). For `len` above 65529 the number does
not fit the two bytes and R76 and R514 are silent: its low 16 bits are kept. DESIGN CHOICE (log 23). -/
def Zpaql.closeProgram (z : Zpaql) (len : Nat) : Zpaql :=
  let hsize := BitVec.ofNat 16 (len + 6)
  { z with prog := pokeBytes z.prog 0 [hsize.setWidth 8, (hsize >>> 8).setWidth 8], hend := z.hbegin + len }

/-- The PCOMP instance of a complete program: all state zero, the sizes `2^pm` and `2^ph` (R510, R514). -/
def Zpaql.createPcomp (z : Zpaql) (hd : Header) : Zpaql :=
  { Zpaql.blank with
    mbits := hd.pm.toNat, hbits := hd.ph.toNat
    prog := z.prog, cend := z.cend, hbegin := z.hbegin, hend := z.hend }

/-- `ph` or `pm` above MAXLOG (R514, R533); `ph` is reported when both are (log 19). -/
def pcompOversize (caps : Caps) (hd : Header) : Option Byte :=
  if caps.maxLog < hd.ph.toNat then some hd.ph
  else if caps.maxLog < hd.pm.toNat then some hd.pm
  else none

/-- What `step` returns when `write` has processed a symbol (R501, R503). -/
def Symbol.report : Symbol → Report
  | .byte _ => .byteProcessed
  | .eos => .segmentEnded

/-- The `write` has ended: `step` returns next. -/
def State.wrote (s : State) (sym : Symbol) : State := { s with phase := .work (.finish sym.report) }

/-- State 0 (R511). -/
def writeInit (s : State) (sym : Symbol) : State :=
  match sym with
  | .eos => s.raise .fmtPpEos
  | .byte c =>
    if c = 0 then { s with pp := { s.pp with state := .pass } }.wrote sym
    else if c = 1 then { s with pp := { s.pp with state := .lenLow } }.wrote sym
    else s.raise .fmtPpType

/-- State 1 (R512). -/
def writePass (s : State) (sym : Symbol) : State :=
  match sym with
  | .eos => s.wrote sym
  | .byte c => (s.putByte s.outSink s.sumSink c).wrote sym

/-- State 2 (R513). -/
def writeLenLow (s : State) (sym : Symbol) : State :=
  match sym with
  | .eos => s.raise .fmtPpEos
  | .byte c => { s with pp := { s.pp with len := c.setWidth 16, state := .lenHigh } }.wrote sym

/-- State 3 (R513). A fault leaves everything as before the `write` (R538, log 9). -/
def writeLenHigh (s : State) (sym : Symbol) : State :=
  match sym with
  | .eos => s.raise .fmtPpEos
  | .byte c =>
    let len := s.pp.len + c.setWidth 16 * 256
    if len = 0 then s.raise .fmtPpEmpty
    else
      { s with pp := { state := .program, len := len, cnt := 0 }, pcomp := .preparePcomp s.header }.wrote sym

/-- State 4 (R514). A fault leaves everything as before the `write` (R538, log 9). -/
def writeProgram (s : State) (sym : Symbol) : State :=
  match sym with
  | .eos => s.raise .fmtPpEos
  | .byte c =>
    let z := s.pcomp.storeProgram s.pp.cnt c
    let cnt := s.pp.cnt + 1
    if cnt = s.pp.len.toNat then
      match pcompOversize s.caps s.header with
      | some size => s.raise (.resPcompSize size)
      | none =>
        { s with
          pcomp := (z.closeProgram s.pp.len.toNat).createPcomp s.header
          pp := { s.pp with cnt := cnt, state := .running } }.wrote sym
    else { s with pcomp := z, pp := { s.pp with cnt := cnt } }.wrote sym

/-- The input of the PCOMP `run` for a symbol: the byte, or 0xFFFFFFFF at the end of a segment (R515). -/
def Symbol.input : Symbol → Word
  | .byte c => c.setWidth 32
  | .eos => 0xFFFFFFFF

/-- State 5 (R515). -/
def writeRunning (s : State) (sym : Symbol) : State := s.startRun .pcomp sym.input (.finish sym.report)

/-- `write(sym)` of the PostProcessor (R511 to R515). -/
def State.ppWrite (s : State) (sym : Symbol) : State :=
  match s.pp.state with
  | .init => writeInit s sym
  | .pass => writePass s sym
  | .lenLow => writeLenLow s sym
  | .lenHigh => writeLenHigh s sym
  | .program => writeProgram s sym
  | .running => writeRunning s sym

end Sys2Proof.Machine
end

