-- ==== Sys2Proof/Machine/Sequence.lean ====
section
/-! DEFINITION. The operations of a core and their order (R470, R478 to R482, R500 to R504): what a requested operation
starts, and what each of its parts does (log 6). -/

namespace Sys2Proof.Machine

/-! ### Encoding (R478, R479) -/

/-- `encode(y, p)` on the state: the coder changes and bytes are put to the Writer. -/
def State.encodeBit (s : State) (y : Bool) (p : Nat) : State :=
  let r := s.coder.encode y p
  { s with coder := r.1, writer := s.writer ++ r.2 }

/-- The state after `predict()` (R429). -/
def State.predict (s : State) : State := { s with pred := s.pred.predict }

/-- The coder's probability of a data bit, `predict() * 2 + 1` (R471), of a state after `predict()`. -/
def State.dataProb (s : State) : Nat := 2 * s.pred.p1 + 1

/-- `update(y)` up to the HCOMP `run` (R430, R462), which it starts when the byte is complete; `next` follows `update`. -/
def State.update (s : State) (y : Bool) (next : Task) : State :=
  let s := { s with pred := (s.pred.train y).advance y, phase := .work next }
  if 256 ≤ s.pred.c8.toNat then s.startRun .hcomp (BitVec.ofNat 32 (s.pred.c8.toNat - 256)) next else s

/-- `compress(c)`: the flag *a byte follows* (R478). -/
def encodeFlag (c : Byte) (s : State) : State := { s.encodeBit false 0 with phase := .work (.encodeBits c 8) }

/-- `compress(c)`: bit `left - 1` of `c` is predicted, coded and learned (R478). -/
def encodeBits (c : Byte) (left : Nat) (s : State) : State :=
  match left with
  | 0 => { s with phase := .work (.finish .compressed) }
  | k + 1 =>
    let s := s.predict
    let y := c.getLsbD k
    (s.encodeBit y s.dataProb).update y (.encodeBits c k)

/-- `compress(EOS)`: the end-of-segment flag (R478, R479). -/
def encodeEos (s : State) : State := { s.encodeBit true 0 with phase := .work (.finish .compressed) }

/-! ### Decoding (R480 to R483) -/

/-- `decode(p)` on the state, then `k` of the bit; a fault leaves `low`, `high` and `curr` as before, the bytes that
the Reader delivered are gone (log 9). -/
def State.decodeBit (s : State) (p : Nat) (k : Bool → State → State) : State :=
  match s.coder.decode p s.reader with
  | .bit y coder rest => k y { s with coder := coder, reader := rest }
  | .corrupt => s.raise .fmtCorrupt
  | .eof => { s with reader := [] }.raise .fmtEof

/-- `decompress()` after its flag: the end of the segment, where `curr` must be 0 (R482), or the loop over eight bits. -/
def afterFlag (y : Bool) (s : State) : State :=
  if y then
    if s.coder.curr ≠ 0 then s.raise .fmtEosCurr else { s with phase := .work (.write .eos) }
  else { s with phase := .work (.decodeBits 1) }

/-- `decompress()`: `curr` is filled if it is 0 (R481) and the flag is decoded (R480). -/
def decodeFlag (s : State) : State :=
  if s.coder.curr = 0 then
    match Coder.loadCurr 4 s.coder s.reader with
    | (coder, rest, true) => { s with coder := coder, reader := rest }.decodeBit 0 afterFlag
    | (coder, rest, false) => { s with coder := coder, reader := rest }.raise .fmtEof
  else s.decodeBit 0 afterFlag

/-- `decompress()`: one turn of its loop (R480), `c` its variable; when `c` has reached 256 the byte goes to `write`. -/
def decodeBits (c : BitVec 9) (s : State) : State :=
  if 256 ≤ c.toNat then { s with phase := .work (.write (.byte (c.setWidth 8))) }
  else
    let s := s.predict
    s.decodeBit s.dataProb fun y s => s.update y (.decodeBits (c <<< 1 ||| BitVec.ofNat 9 y.toNat))

/-! ### Tasks, requests, and the return from a `run` -/

/-- One part of an operation in progress. -/
def State.work (s : State) (t : Task) : State :=
  match t with
  | .encodeFlag c => encodeFlag c s
  | .encodeBits c left => encodeBits c left s
  | .encodeEos => encodeEos s
  | .decodeFlag => decodeFlag s
  | .decodeBits c => decodeBits c s
  | .write sym => s.ppWrite sym
  | .finish r => { s with phase := .idle, reports := s.reports ++ [r] }

/-- The `run` in progress returns to its caller (R182): after HCOMP's the predictor reloads its contexts (R462, R463). -/
def State.returnRun (s : State) (next : Task) : State :=
  match s.inst with
  | .hcomp => { s with pred := s.pred.nextByte s.hcomp, phase := .work next }
  | .pcomp => { s with phase := .work next }

/-- The core accepts `compress` or `step` in this role: it is loaded, not faulted, and of that role (R470, R504). -/
def State.accepts (s : State) (role : Role) : Bool := s.loaded && s.fault.isNone && decide (s.role = role)

/-- Start an operation if the core accepts it; refused out of order, which changes nothing but the report (R504, log 8). -/
def State.begin (s : State) (role : Role) (t : Task) : State :=
  if s.accepts role then { s with phase := .work t } else { s with reports := s.reports ++ [.refused] }

/-- Serve one request of the host (R501). -/
def State.serve (s : State) (q : Request) : State :=
  match q with
  | .load role header => s.load role header
  | .compress c => s.begin .encoding (.encodeFlag c)
  | .compressEos => s.begin .encoding .encodeEos
  | .step => s.begin .decoding .decodeFlag
  | .setReader bytes => { s with reader := bytes }
  | .setSinks out sum => { s with outSink := out, sumSink := sum }

/-- Take the host's next request, if there is one. -/
def State.takeRequest (s : State) : Option State :=
  match s.requests with
  | [] => none
  | q :: rest => some ({ s with requests := rest }.serve q)

end Sys2Proof.Machine
end

