-- ==== Sys2Proof/Machine/Advance.lean ====
section
/-! DEFINITION. What the core does next, by its latch and its phase (R28, R83, R171, R500). -/

namespace Sys2Proof.Machine

/-- One instruction of the `run` in progress: fetch, decode, execute (R171, R172). -/
def execute (s : State) : StepOutcome :=
  match s.fetch with
  | .ok i => exec i s
  | .error e => .next (s.raiseFetch e)

/-- A core whose latch is clear. -/
def advance (s : State) : StepOutcome :=
  match s.phase with
  | .run _ => execute s
  | .halted next => .next (s.returnRun next)
  | .work t => .next (s.work t)
  | .idle => .next (s.takeRequest.getD s)

/-- A core whose latch holds `f` accepts nothing but a `load` (R28, R504, R536); it stops when nothing is requested. -/
def stuck (f : CoreFault) (s : State) : StepOutcome :=
  match s.takeRequest with
  | some t => .next t
  | none => .fault (.latched f)

end Sys2Proof.Machine
end

