-- ==== Sys2Proof/Machine/Step.lean ====
section
/-! DEFINITION. The step of the machine, and the placing of an instruction where it is fetched next. -/

namespace Sys2Proof.Machine

/-- One step (log 6): one instruction of a `run`, one part of another operation, or one request of the host. -/
def step (s : State) : Host.Outcome State Fault Refusal :=
  match s.fault with
  | some f => stuck f s
  | none => advance s

/-- `s` with an instruction placed where the next step fetches it: it stands for the `load` of a program (log 2). -/
def State.withFetchWord (s : State) (nbits w : Nat) : State := s.placeWord nbits w

end Sys2Proof.Machine
end

