-- ==== Sys2Proof/Safety.lean ====
section
/-! DEFINITION. The terms that claims use: what an instance holds, said through reads; source values and encodings as the
spec words them; the forms and ranges that every step keeps; bit sequences through the coder; a header's bytes. -/

namespace Sys2Proof.Machine

/-! ### What an instruction leaves in its instance -/

/-- `g` with the value at `k` replaced by `v`. -/
def setAt {α : Type} (g : Nat → α) (k : Nat) (v : α) : Nat → α := fun j => if j = k then v else g j

/-- The program store, its range and the sizes of M and H are those of `z`. -/
def Zpaql.SameConfig (z z' : Zpaql) : Prop :=
  z'.mbits = z.mbits ∧ z'.hbits = z.hbits ∧ z'.prog = z.prog ∧
    z'.cend = z.cend ∧ z'.hbegin = z.hbegin ∧ z'.hend = z.hend

/-- `z'` has these registers, this flag and PC, and reads M, H and R as given; the rest is as in `z`. -/
def Zpaql.Holds (z z' : Zpaql) (a b c d : Word) (f : Bool) (pc : Nat) (m : Nat → Byte) (h : Nat → Word)
    (r : Byte → Word) : Prop :=
  z'.a = a ∧ z'.b = b ∧ z'.c = c ∧ z'.d = d ∧ z'.f = f ∧ z'.pc = pc ∧
    (∀ k, z'.readM k = m k) ∧ (∀ k, z'.readH k = h k) ∧ (∀ n, z'.readR n = r n) ∧ z.SameConfig z'

/-- `z'` is `z` but for PC. -/
def Zpaql.MovedTo (z : Zpaql) (pc : Nat) (z' : Zpaql) : Prop :=
  z.Holds z' z.a z.b z.c z.d z.f pc z.readM z.readH z.readR

/-- `z'` is `z` with `v`, reduced to the width of the location, written to `x`, and PC at `pc` (R130, R200): the byte
`M[B mod MSIZE]` or `M[C mod MSIZE]`, the word `H[D mod HSIZE]`, or a register. Nothing else differs. -/
def Zpaql.Wrote (z : Zpaql) (x : Loc) (v : Word) (pc : Nat) (z' : Zpaql) : Prop :=
  match x with
  | .a => z.Holds z' v z.b z.c z.d z.f pc z.readM z.readH z.readR
  | .b => z.Holds z' z.a v z.c z.d z.f pc z.readM z.readH z.readR
  | .c => z.Holds z' z.a z.b v z.d z.f pc z.readM z.readH z.readR
  | .d => z.Holds z' z.a z.b z.c v z.f pc z.readM z.readH z.readR
  | .mb =>
    z.Holds z' z.a z.b z.c z.d z.f pc (setAt z.readM (z.b.toNat % 2 ^ z.mbits) (v.setWidth 8)) z.readH z.readR
  | .mc =>
    z.Holds z' z.a z.b z.c z.d z.f pc (setAt z.readM (z.c.toNat % 2 ^ z.mbits) (v.setWidth 8)) z.readH z.readR
  | .hd => z.Holds z' z.a z.b z.c z.d z.f pc z.readM (setAt z.readH (z.d.toNat % 2 ^ z.hbits) v) z.readR

/-- `z'` is `z` with F written and PC at `pc`. -/
def Zpaql.WroteFlag (z : Zpaql) (f : Bool) (pc : Nat) (z' : Zpaql) : Prop :=
  z.Holds z' z.a z.b z.c z.d f pc z.readM z.readH z.readR

/-- The value in a location, a byte of M zero-extended, as a number (R130, R200). -/
def Zpaql.held (z : Zpaql) : Loc → Nat
  | .a => z.a.toNat
  | .b => z.b.toNat
  | .c => z.c.toNat
  | .d => z.d.toNat
  | .mb => (z.readM (z.b.toNat % 2 ^ z.mbits)).toNat
  | .mc => (z.readM (z.c.toNat % 2 ^ z.mbits)).toNat
  | .hd => (z.readH (z.d.toNat % 2 ^ z.hbits)).toNat

/-- The source value `v` as a number (R200, R260, R310). -/
def Zpaql.source (z : Zpaql) : Src → Nat
  | .loc x => z.held x
  | .imm n => n.toNat

/-- The bytes of the instruction: 1, or 2 with an operand byte (R200, R260). -/
def sourceBytes : Src → Nat
  | .loc _ => 1
  | .imm _ => 2

/-- The code of a location, the field `y` or `z` of an opcode (R130, R200). -/
def locCode : Loc → Nat
  | .a => 0
  | .b => 1
  | .c => 2
  | .d => 3
  | .mb => 4
  | .mc => 5
  | .hd => 6

/-- The bytes of an instruction whose first opcode is `base` and whose field `z` is the source code (R200, R260). -/
def sourceEncoding (base : Nat) : Src → List Byte
  | .loc x => [BitVec.ofNat 8 (base + locCode x)]
  | .imm n => [BitVec.ofNat 8 (base + 7), n]

/-- `s` after a fault `f` (R536): the latch is set, the operation has ended and returned the fault, nothing else
differs. -/
def State.faultedBy (s : State) (f : CoreFault) : State :=
  { s with fault := some f, phase := .idle, reports := s.reports ++ [.faulted f] }

/-- `s` after a fault `f` with the executing instance's PC at `pc`. -/
def State.faultedAt (s : State) (pc : Nat) (f : CoreFault) : State := (s.setVm { s.vm with pc := pc }).faultedBy f

/-- Every register of the instance and every element of R, M and H is 0 (R49, R514, R561). -/
def Zpaql.AllZero (z : Zpaql) : Prop :=
  z.a = 0 ∧ z.b = 0 ∧ z.c = 0 ∧ z.d = 0 ∧ z.f = false ∧ z.pc = 0 ∧
    (∀ n, z.readR n = 0) ∧ (∀ k, z.readM k = 0) ∧ ∀ k, z.readH k = 0

/-- The tables of a component at their reset values: CM (R35), ICM (R36), MATCH (R37), MIX2 (R39), MIX (R40), ISSE (R41),
SSE (R42). The weights of MIX and ISSE are read as signed numbers. -/
def Component.TablesAtReset (k : Component) : Prop :=
  match k.desc with
  | .const _ => True
  | .cm s _ => ∀ j, j < 2 ^ s.toNat → k.readCm j = 0x80000000
  | .icm s =>
    (∀ j, j < 64 * 2 ^ s.toNat → k.readHt j = 0) ∧ ∀ st, st < 256 → (k.readCm st).toNat = cminit st
  | .matchModel s b => (∀ j, j < 2 ^ b.toNat → k.readHt j = 0) ∧ ∀ j, j < 2 ^ s.toNat → k.readCm j = 0
  | .avg .. => True
  | .mix2 s .. => ∀ j, j < 2 ^ s.toNat → k.readA16 j = 32768
  | .mix s _ m _ _ => ∀ j, j < m.toNat * 2 ^ s.toNat → k.weight j = 65536 / (m.toNat : Int)
  | .isse s _ =>
    (∀ j, j < 64 * 2 ^ s.toNat → k.readHt j = 0) ∧
      ∀ st, st < 256 → k.weight (2 * st) = 32768 ∧
        k.weight (2 * st + 1) = clamp (stretch (cminit st / 256) * 1024) (-524288) 524287
  | .sse s _ start _ =>
    ∀ j, j < 32 * 2 ^ s.toNat →
      (k.readCm j).toNat = squash (((j % 32 : Nat) : Int) * 64 - 992) * 131072 + start.toNat

/-- The fields of a component at reset: `limit` of CM and SSE is `4 * limit_arg` (R35, R42), `c` of MIX2 and MIX is
`2^sizebits` (R39, R40; where R49 has 0, log 14), every other field 0, `cxtTop` (the model's own, log 15) among them. -/
def Component.FieldsAtReset (k : Component) : Prop :=
  k.cxt = 0 ∧ k.cxtTop = 0 ∧ k.a = 0 ∧ k.b = 0 ∧
    (k.c = match k.desc with
      | .mix2 s .. => 2 ^ s.toNat
      | .mix s .. => 2 ^ s.toNat
      | _ => 0) ∧
    k.limit = match k.desc with
      | .cm _ limit => 4 * limit.toNat
      | .sse _ _ _ limit => 4 * limit.toNat
      | _ => 0

/-- `t` is as `update(y)` leaves `s` before the `run` it starts: `c8` has the bit appended; if that completes the byte, a
`run` of HCOMP has begun with the byte as A and PC at `hbegin`, nothing else of the instance set, and `next` follows when
it has returned; else no `run` begins and HCOMP is as it was. PCOMP is as it was (R170, R430, R462). -/
def State.Updated (s : State) (y : Bool) (next : Task) (t : State) : Prop :=
  t.pred.c8.toNat = 2 * s.pred.c8.toNat + y.toNat ∧
    (128 ≤ s.pred.c8.toNat → t.inst = .hcomp ∧ t.phase = .run next ∧
      t.hcomp = { s.hcomp with
        a := BitVec.ofNat 32 (2 * s.pred.c8.toNat + y.toNat - 256), pc := s.hcomp.hbegin }) ∧
    (s.pred.c8.toNat < 128 → t.inst = s.inst ∧ t.phase = .work next ∧ t.hcomp = s.hcomp) ∧
    t.pcomp = s.pcomp

/-- The displacement of a short jump, `sext_8(N)` (R103). -/
def displacement (n : Byte) : Int := if n.toNat ≤ 127 then (n.toNat : Int) else (n.toNat : Int) - 256

/-! ### Forms and ranges that every step keeps -/

/-- The canonical form of the memories of an instance: entries rising, in range, none equal to the reset value 0. -/
def Zpaql.MemoryForm (z : Zpaql) : Prop :=
  MemWf (fun _ => 0#32) 256 z.r ∧ MemWf (fun _ => 0#8) (2 ^ z.mbits) z.m ∧ MemWf (fun _ => 0#32) (2 ^ z.hbits) z.h ∧
    z.prog.Pairwise (fun x y => x.1 < y.1) ∧ ∀ e ∈ z.prog, e.2 ≠ 0#8

/-- The canonical form of the tables of a component. -/
def Component.MemoryForm (k : Component) : Prop :=
  MemWf (cmReset k.desc) (cmLength k.desc) k.cm ∧ MemWf (fun _ => 0#8) (htLength k.desc) k.ht ∧
    MemWf (fun _ => 32768#16) (a16Length k.desc) k.a16

/-- The canonical form of the predictor's arrays and tables; there are at most 255 components (R73). -/
def Predictor.MemoryForm (q : Predictor) : Prop :=
  MemWf (fun _ => 0#32) 256 q.h ∧ MemWf (fun _ => (0 : Int)) 256 q.p ∧ q.comps.length ≤ 255 ∧
    ∀ k ∈ q.comps, k.MemoryForm

/-- Every memory of the machine has its canonical form. -/
def State.MemoryForm (s : State) : Prop := s.hcomp.MemoryForm ∧ s.pcomp.MemoryForm ∧ s.pred.MemoryForm

/-- The coder's invariants (R484): `high > low >= 1` and `(high xor low) >= 0x1000000`. -/
def Coder.Bounds (k : Coder) : Prop :=
  1 ≤ k.low.toNat ∧ k.low.toNat < k.high.toNat ∧ 0x1000000 ≤ (k.high ^^^ k.low).toNat

/-- The value of `hmap4` that carries the bits of `c8` (R32). -/
def nibbleForm (c8 : Nat) : Nat :=
  if c8 < 16 then c8
  else
    let j := Nat.log2 c8 - 4
    16 * (c8 / 2 ^ j) + 2 ^ j + c8 % 2 ^ j

/-- `c8` is at least 1 and `hmap4` is its nibble form; `c8` is 256 or more only while the byte is given to HCOMP's `run`,
or after that `run` has faulted (R31, R32, R462). -/
def State.PartialByte (s : State) : Prop :=
  1 ≤ s.pred.c8.toNat ∧
    (s.pred.c8.toNat < 256 → s.pred.hmap4.toNat = nibbleForm s.pred.c8.toNat) ∧
    (256 ≤ s.pred.c8.toNat →
      s.fault ≠ none ∨ (s.inst = .hcomp ∧ ∃ t, s.phase = .run t ∨ s.phase = .halted t))

/-- A faulted core has no operation in progress (R536, R537). -/
def State.FaultedIsIdle (s : State) : Prop := s.fault ≠ none → s.phase = .idle

/-- The guard gap lies before the program: a loaded block's `hbegin` is `cend + 128` and its HCOMP section is not empty
(R73, R74); the PCOMP store has `cend' = 8` and `hbegin' = 136` from its preparation on (R76). -/
def State.GapBeforeProgram (s : State) : Prop :=
  (s.loaded = true → 8 ≤ s.hcomp.cend ∧ s.hcomp.hbegin = s.hcomp.cend + 128 ∧ s.hcomp.hbegin < s.hcomp.hend) ∧
    (s.pp.state = .program ∨ s.pp.state = .running → s.pcomp.cend = 8 ∧ s.pcomp.hbegin = 136)

/-- Every `p[i]` is in -2048 .. 2047 (R30). -/
def Predictor.OutputsInRange (q : Predictor) : Prop := ∀ i, -2048 ≤ pAt q.p i ∧ pAt q.p i ≤ 2047

/-! ### Bit sequences through the coder -/

/-- Code bits with their probabilities, one after another. -/
def Coder.encodeAll : Coder → List (Bool × Nat) → Coder × List Byte
  | k, [] => (k, [])
  | k, (y, p) :: rest =>
    let r := k.encode y p
    let q := Coder.encodeAll r.1 rest
    (q.1, r.2 ++ q.2)

/-- Decode bits with the given probabilities, none when a fault occurs. -/
def Coder.decodeAll : Coder → List Nat → List Byte → Option (List Bool × Coder × List Byte)
  | k, [], input => some ([], k, input)
  | k, p :: ps, input =>
    match k.decode p input with
    | .bit y k' rest =>
      match Coder.decodeAll k' ps rest with
      | some (ys, out) => some (y :: ys, out)
      | none => none
    | .corrupt => none
    | .eof => none

/-! ### The bytes of a header (R73) -/

/-- The COMP section: `hsize`, `hh`, `hm`, `ph`, `pm`, `n`, the descriptors and the terminator. -/
def compSection (hsize : Nat) (hh hm ph pm : Byte) (descs : List CompDesc) : List Byte :=
  [BitVec.ofNat 8 hsize, BitVec.ofNat 8 (hsize / 256), hh, hm, ph, pm, BitVec.ofNat 8 descs.length] ++
    descs.flatMap encodeDesc ++ [0]

/-- `hsize` of a header with these descriptors and this HCOMP section: `(cend - 2) + (hend - hbegin)` (R74). -/
def headerSize (descs : List CompDesc) (hcomp : List Byte) : Nat :=
  (descs.flatMap encodeDesc).length + 6 + hcomp.length

end Sys2Proof.Machine
end

