-- ==== Sys2Proof/WellFormed.lean ====
section
/-! DEFINITION. Well-formed component lists (R112, R411 to R419). An `Instr` needs no check: its operands are bytes of
the instruction and every byte is an operand (R100, R103, log 18). -/

namespace Sys2Proof

/-- The size arguments of a descriptor are within the caps (R412 to R414, R416 to R419). -/
def CompDesc.sizesWithin (caps : Caps) : CompDesc → Bool
  | .const _ => true
  | .cm s _ => s.toNat ≤ caps.maxCm
  | .icm s => s.toNat ≤ caps.maxIcm
  | .matchModel s b => s.toNat ≤ caps.maxMatch && b.toNat ≤ caps.maxMatch
  | .avg .. => true
  | .mix2 s .. => s.toNat ≤ caps.maxMix
  | .mix s .. => s.toNat ≤ caps.maxMix
  | .isse s _ => s.toNat ≤ caps.maxIsse
  | .sse s .. => s.toNat ≤ caps.maxSse

/-- Every component that the descriptor of component `i` names is numbered below `i`, and a MIX has at least one input
(R415 to R419). -/
def CompDesc.refersBelow (i : Nat) : CompDesc → Bool
  | .const _ => true
  | .cm .. => true
  | .icm _ => true
  | .matchModel .. => true
  | .avg j k _ => j.toNat < i && k.toNat < i
  | .mix2 _ j k _ _ => j.toNat < i && k.toNat < i
  | .mix _ j m _ _ => j.toNat < i && 1 ≤ m.toNat && m.toNat ≤ i - j.toNat
  | .isse _ j => j.toNat < i
  | .sse _ j _ _ => j.toNat < i

/-- An SSE's initial count is within its ceiling (R419). -/
def CompDesc.countsWithin : CompDesc → Bool
  | .sse _ _ start limit => start.toNat ≤ 4 * limit.toNat
  | _ => true

/-- The descriptor of component `i` passes every load check. -/
def CompDesc.wellFormed (caps : Caps) (i : Nat) (d : CompDesc) : Bool :=
  d.sizesWithin caps && d.refersBelow i && d.countsWithin

/-- The descriptors of components `i, i+1, …` pass every load check. -/
def wellFormedFrom (caps : Caps) : Nat → List CompDesc → Bool
  | _, [] => true
  | i, d :: ds => d.wellFormed caps i && wellFormedFrom caps (i + 1) ds

/-- A component list that `load` accepts: at least one component, each well formed (R411). -/
def wellFormedModel (caps : Caps) (ds : List CompDesc) : Bool :=
  ds != [] && wellFormedFrom caps 0 ds

end Sys2Proof
end

