-- ==== Sys2Proof/Certificates/Slice0/Obligations.lean ====
section
/-! DEFINITION. The statements for the provers. `s.vm` is the instance that executes, `s.setVm z'` the state `s` with that
instance replaced: an instruction's statement says what its instance holds afterwards and, by `s.setVm`, that nothing
else of the state differs. -/

open Sys2Proof Sys2Proof.Machine

/-! ## Decoding -/

/-- A program's bytes decode to the program: every instruction, every operand byte (R100 to R108). -/
def Obligations.DecodeEncodedProgram : Prop :=
  ∀ is : List Instr, decodeProgram is.length (encodeProgram is) = .ok is

/-- What decodes is the encoding of what it decodes to, every opcode byte starts an instruction, and a decode fails only
because the bytes end (R100, R107, R111). -/
def Obligations.DecodedBytesAreTheEncoding : Prop :=
  (∀ bytes i rest, decode bytes = .ok (i, rest) → bytes = encode i ++ rest) ∧
  (∀ (op n m : Byte) (rest : List Byte), ∃ i tail, decode (op :: n :: m :: rest) = .ok (i, tail) ∧
    (encode i).head? = some op)

/-- A few words written out from the spec's encodings: `A<>B`'s neighbour `B<>A` 00001000, `A=R N` 00000111 n,
`LJ` 11111111 l h, `*B=*C` 01100101, `A<<= N` 11001111 n, `A== N` 11011111 n, `HALT` 00111000 (R104 to R106). -/
def Obligations.WordsDecode : Prop :=
  decodeTableWord 8 0b00001000 = some .swapB ∧
  decodeTableWord 16 0b00000111_00000111 = some (.ldA 7) ∧
  decodeTableWord 24 0b00000001_00000010_11111111 = some (.lj 2 1) ∧
  decodeTableWord 8 0b01100101 = some .movMbMc ∧
  decodeTableWord 16 0b00100100_11001111 = some (.shlN 0x24) ∧
  decodeTableWord 16 0b11101111_11011111 = some (.eqN 0xEF) ∧
  decodeTableWord 8 0b00111000 = some .halt

/-- During a `run`, when the bytes at PC lie in the program and are those of instruction `i`, a step is `exec i` of that
state: PC is not moved before `exec`, which moves it itself (R171, R172; log 6). -/
def Obligations.StepRunsDecodedInstruction : Prop :=
  ∀ (s : State) (next : Task) (i : Instr), s.fault = none → s.phase = .run next →
    (∀ k, k < (encode i).length →
      s.vm.hbegin ≤ s.vm.pc + k ∧ s.vm.pc + k < s.vm.hend ∧ (encode i)[k]? = some (s.vm.readP (s.vm.pc + k))) →
    step s = exec i s

/-- A fetch outside `[hbegin, hend)`, of the opcode byte (`k = 0`) or of an operand byte of instruction `i`, faults with
the address of the fetch; PC has advanced over the bytes fetched before and nothing else of the instance has changed
(R77, R171, R172). -/
def Obligations.FetchOutsideProgramFaults : Prop :=
  ∀ (s : State) (next : Task) (i : Instr) (k : Nat), s.fault = none → s.phase = .run next → k < (encode i).length →
    (∀ j, j < k →
      s.vm.hbegin ≤ s.vm.pc + j ∧ s.vm.pc + j < s.vm.hend ∧ (encode i)[j]? = some (s.vm.readP (s.vm.pc + j))) →
    (s.vm.pc + k < s.vm.hbegin ∨ s.vm.hend ≤ s.vm.pc + k) →
    step s = .next (s.faultedAt (s.vm.pc + k) (.execFetchBounds s.inst (s.vm.pc + k)))

/-! ## The instructions of files 40 and 41 -/

/-- `A++ B++ C++ D++ *B++ *C++ *D++` (constructors incA incB incC incD incMb incMc incHd) complete in every state. -/
def Obligations.IncrementResult : Prop :=
  ∀ (x : Loc) (s : State),
    encode (Instr.ofInc x) = [BitVec.ofNat 8 (8 * locCode x + 1)] ∧
    ∃ z', exec (Instr.ofInc x) s = .next (s.setVm z') ∧
      s.vm.Wrote x (BitVec.ofNat 32 (s.vm.held x + 1)) (s.vm.pc + 1) z'

/-- `A-- … *D--` (decA decB decC decD decMb decMc decHd) complete in every state. -/
def Obligations.DecrementResult : Prop :=
  ∀ (x : Loc) (s : State),
    encode (Instr.ofDec x) = [BitVec.ofNat 8 (8 * locCode x + 2)] ∧
    ∃ z', exec (Instr.ofDec x) s = .next (s.setVm z') ∧
      s.vm.Wrote x (BitVec.ofInt 32 ((s.vm.held x : Int) - 1)) (s.vm.pc + 1) z'

/-- `A! … *D!` (notA notB notC notD notMb notMc notHd) complete in every state. -/
def Obligations.ComplementResult : Prop :=
  ∀ (x : Loc) (s : State),
    encode (Instr.ofNot x) = [BitVec.ofNat 8 (8 * locCode x + 3)] ∧
    ∃ z', exec (Instr.ofNot x) s = .next (s.setVm z') ∧
      s.vm.Wrote x (BitVec.ofNat 32 (2 ^ 32 - 1 - s.vm.held x)) (s.vm.pc + 1) z'

/-- `A=0 … *D=0` (zeroA zeroB zeroC zeroD zeroMb zeroMc zeroHd) complete in every state. -/
def Obligations.ClearResult : Prop :=
  ∀ (x : Loc) (s : State),
    encode (Instr.ofZero x) = [BitVec.ofNat 8 (8 * locCode x + 4)] ∧
    ∃ z', exec (Instr.ofZero x) s = .next (s.setVm z') ∧ s.vm.Wrote x 0 (s.vm.pc + 1) z'

/-- `B<>A C<>A D<>A *D<>A` (swapB swapC swapD swapHd) exchange 32 bits, `*B<>A *C<>A` (swapMb swapMc) the low byte of A
and the byte of M; they complete in every state. -/
def Obligations.SwapResult : Prop :=
  ∀ s : State,
    let z := s.vm
    let mb := z.b.toNat % 2 ^ z.mbits
    let mc := z.c.toNat % 2 ^ z.mbits
    let hd := z.d.toNat % 2 ^ z.hbits
    let low := z.a.toNat % 256
    (encode .swapB = [8] ∧ ∃ z', exec .swapB s = .next (s.setVm z') ∧
      z.Holds z' z.b z.a z.c z.d z.f (z.pc + 1) z.readM z.readH z.readR) ∧
    (encode .swapC = [16] ∧ ∃ z', exec .swapC s = .next (s.setVm z') ∧
      z.Holds z' z.c z.b z.a z.d z.f (z.pc + 1) z.readM z.readH z.readR) ∧
    (encode .swapD = [24] ∧ ∃ z', exec .swapD s = .next (s.setVm z') ∧
      z.Holds z' z.d z.b z.c z.a z.f (z.pc + 1) z.readM z.readH z.readR) ∧
    (encode .swapMb = [32] ∧ ∃ z', exec .swapMb s = .next (s.setVm z') ∧
      z.Holds z' (BitVec.ofNat 32 (z.a.toNat - low + (z.readM mb).toNat)) z.b z.c z.d z.f (z.pc + 1)
        (setAt z.readM mb (BitVec.ofNat 8 low)) z.readH z.readR) ∧
    (encode .swapMc = [40] ∧ ∃ z', exec .swapMc s = .next (s.setVm z') ∧
      z.Holds z' (BitVec.ofNat 32 (z.a.toNat - low + (z.readM mc).toNat)) z.b z.c z.d z.f (z.pc + 1)
        (setAt z.readM mc (BitVec.ofNat 8 low)) z.readH z.readR) ∧
    (encode .swapHd = [48] ∧ ∃ z', exec .swapHd s = .next (s.setVm z') ∧
      z.Holds z' (z.readH hd) z.b z.c z.d z.f (z.pc + 1) z.readM (setAt z.readH hd z.a) z.readR)

/-- `A=R N B=R N C=R N D=R N` (ldA ldB ldC ldD) complete in every state, for every operand byte. -/
def Obligations.LoadRegisterResult : Prop :=
  ∀ (n : Byte) (s : State),
    (encode (.ldA n) = [7, n] ∧ ∃ z', exec (.ldA n) s = .next (s.setVm z') ∧
      s.vm.Wrote .a (s.vm.readR n) (s.vm.pc + 2) z') ∧
    (encode (.ldB n) = [15, n] ∧ ∃ z', exec (.ldB n) s = .next (s.setVm z') ∧
      s.vm.Wrote .b (s.vm.readR n) (s.vm.pc + 2) z') ∧
    (encode (.ldC n) = [23, n] ∧ ∃ z', exec (.ldC n) s = .next (s.setVm z') ∧
      s.vm.Wrote .c (s.vm.readR n) (s.vm.pc + 2) z') ∧
    (encode (.ldD n) = [31, n] ∧ ∃ z', exec (.ldD n) s = .next (s.setVm z') ∧
      s.vm.Wrote .d (s.vm.readR n) (s.vm.pc + 2) z')

/-- `R=A N` (stA) completes in every state: element N of R becomes A and every other element stays. -/
def Obligations.StoreRegisterResult : Prop :=
  ∀ (n : Byte) (s : State),
    encode (.stA n) = [55, n] ∧
    ∃ z', exec (.stA n) s = .next (s.setVm z') ∧
      s.vm.Holds z' s.vm.a s.vm.b s.vm.c s.vm.d s.vm.f (s.vm.pc + 2) s.vm.readM s.vm.readH
        (fun k => if k = n then s.vm.a else s.vm.readR k)

/-- `JT N`, `JF N`, `JMP N` (jt jf jmp): the target is `pc0 + 2 + sext_8(N)`; the others go on at `pc0 + 2`. Every program
lies at 136 or above (statement GapBeforeProgramKept), so `pc0 ≥ 126` and the target is a natural number. -/
def Obligations.ShortJumpResult : Prop :=
  ∀ (n : Byte) (s : State), 126 ≤ s.vm.pc →
    (encode (.jt n) = [39, n] ∧ ∃ z', exec (.jt n) s = .next (s.setVm z') ∧
      ∃ pc : Nat, (pc : Int) = (s.vm.pc : Int) + 2 + (if s.vm.f then displacement n else 0) ∧ s.vm.MovedTo pc z') ∧
    (encode (.jf n) = [47, n] ∧ ∃ z', exec (.jf n) s = .next (s.setVm z') ∧
      ∃ pc : Nat, (pc : Int) = (s.vm.pc : Int) + 2 + (if s.vm.f then 0 else displacement n) ∧ s.vm.MovedTo pc z') ∧
    (encode (.jmp n) = [63, n] ∧ ∃ z', exec (.jmp n) s = .next (s.setVm z') ∧
      ∃ pc : Nat, (pc : Int) = (s.vm.pc : Int) + 2 + displacement n ∧ s.vm.MovedTo pc z')

/-- `LJ NL NH` (lj) completes, PC at `hbegin + NL + 256*NH`, when that is below `hend`; else it faults, PC after the
operand bytes. -/
def Obligations.LongJumpResult : Prop :=
  ∀ (nl nh : Byte) (s : State),
    encode (.lj nl nh) = [255, nl, nh] ∧
    (s.vm.hbegin + nl.toNat + 256 * nh.toNat < s.vm.hend →
      ∃ z', exec (.lj nl nh) s = .next (s.setVm z') ∧
        s.vm.MovedTo (s.vm.hbegin + nl.toNat + 256 * nh.toNat) z') ∧
    (s.vm.hend ≤ s.vm.hbegin + nl.toNat + 256 * nh.toNat →
      exec (.lj nl nh) s = .next (s.faultedAt (s.vm.pc + 3)
        (.execLjTarget s.inst s.vm.pc (s.vm.hbegin + nl.toNat + 256 * nh.toNat))))

/-- `HALT` (halt) completes in every state of a `run`: the `run` has ended, PC is after the opcode byte. -/
def Obligations.HaltResult : Prop :=
  ∀ (s : State) (next : Task), s.phase = .run next →
    encode .halt = [56] ∧
    ∃ z', exec .halt s = .next { s.setVm z' with phase := .halted next } ∧ s.vm.MovedTo (s.vm.pc + 1) z'

/-- `OUT` (out) completes in every state: the low byte of A goes to each sink attached to the executing instance; to HCOMP
none is (R27). -/
def Obligations.OutResult : Prop :=
  ∀ s : State,
    encode .out = [57] ∧
    ∃ z', exec .out s = .next { s.setVm z' with
        output := if s.inst = .pcomp ∧ s.outSink = true then s.output ++ [BitVec.ofNat 8 (s.vm.a.toNat % 256)]
          else s.output
        checksum := if s.inst = .pcomp ∧ s.sumSink = true then s.checksum ++ [BitVec.ofNat 8 (s.vm.a.toNat % 256)]
          else s.checksum } ∧
      s.vm.MovedTo (s.vm.pc + 1) z'

/-- `HASH` and `HASHD` (hash hashd) complete in every state. -/
def Obligations.HashResult : Prop :=
  ∀ s : State,
    (encode .hash = [59] ∧ ∃ z', exec .hash s = .next (s.setVm z') ∧
      s.vm.Wrote .a (BitVec.ofNat 32 ((s.vm.a.toNat + s.vm.held .mb + 512) * 773)) (s.vm.pc + 1) z') ∧
    (encode .hashd = [60] ∧ ∃ z', exec .hashd s = .next (s.setVm z') ∧
      s.vm.Wrote .hd (BitVec.ofNat 32 ((s.vm.held .hd + s.vm.a.toNat + 512) * 773)) (s.vm.pc + 1) z')

/-- `ERROR` (error) and the 40 undefined opcodes (undef5 … undef254): their effect is to raise ExecutionError, in every
state; they are one byte and only PC has moved. -/
def Obligations.FaultingOpcodeResult : Prop :=
  (∀ s : State, encode .error = [0] ∧
    exec .error s = .next (s.faultedAt (s.vm.pc + 1) (.execErrorOpcode s.inst s.vm.pc))) ∧
  Instr.undefinedRows.map (·.1) = [5, 6, 13, 14, 21, 22, 29, 30, 37, 38, 45, 46, 53, 54, 58, 61, 62] ++
      List.range' 120 8 ++ List.range' 240 15 ∧
  ∀ op i, (op, i) ∈ Instr.undefinedRows → ∀ s : State,
    encode i = [BitVec.ofNat 8 op] ∧
    exec i s = .next (s.faultedAt (s.vm.pc + 1) (.execUndefinedOpcode s.inst s.vm.pc (BitVec.ofNat 8 op)))

/-! ## Assignments (file 42): constructors movXS for X in A B C D Mb Mc Hd and S in A B C D Mb Mc Hd N -/

/-- The 56 assignments `X=S` complete in every state: the source value, read before the write, goes to the destination. -/
def Obligations.AssignResult : Prop :=
  ∀ (x : Loc) (src : Src) (s : State),
    encode (Instr.ofMov x src) = sourceEncoding (64 + 8 * locCode x) src ∧
    ∃ z', exec (Instr.ofMov x src) s = .next (s.setVm z') ∧
      s.vm.Wrote x (BitVec.ofNat 32 (s.vm.source src)) (s.vm.pc + sourceBytes src) z'

/-! ## Operations on A (files 43 and 44), eight sources each -/

/-- `A+=S` (addA addB addC addD addMb addMc addHd addN) complete in every state. -/
def Obligations.AddResult : Prop :=
  ∀ (src : Src) (s : State),
    encode (Instr.ofAlu .add src) = sourceEncoding 128 src ∧
    ∃ z', exec (Instr.ofAlu .add src) s = .next (s.setVm z') ∧
      s.vm.Wrote .a (BitVec.ofNat 32 (s.vm.a.toNat + s.vm.source src)) (s.vm.pc + sourceBytes src) z'

/-- `A-=S` (subA … subN) complete in every state. -/
def Obligations.SubtractResult : Prop :=
  ∀ (src : Src) (s : State),
    encode (Instr.ofAlu .sub src) = sourceEncoding 136 src ∧
    ∃ z', exec (Instr.ofAlu .sub src) s = .next (s.setVm z') ∧
      s.vm.Wrote .a (BitVec.ofInt 32 ((s.vm.a.toNat : Int) - s.vm.source src)) (s.vm.pc + sourceBytes src) z'

/-- `A*=S` (mulA … mulN) complete in every state. -/
def Obligations.MultiplyResult : Prop :=
  ∀ (src : Src) (s : State),
    encode (Instr.ofAlu .mul src) = sourceEncoding 144 src ∧
    ∃ z', exec (Instr.ofAlu .mul src) s = .next (s.setVm z') ∧
      s.vm.Wrote .a (BitVec.ofNat 32 (s.vm.a.toNat * s.vm.source src)) (s.vm.pc + sourceBytes src) z'

/-- `A/=S` (divA … divN) complete in every state; division by 0 gives 0. -/
def Obligations.DivideResult : Prop :=
  ∀ (src : Src) (s : State),
    encode (Instr.ofAlu .div src) = sourceEncoding 152 src ∧
    ∃ z', exec (Instr.ofAlu .div src) s = .next (s.setVm z') ∧
      s.vm.Wrote .a (BitVec.ofNat 32 (if s.vm.source src = 0 then 0 else s.vm.a.toNat / s.vm.source src))
        (s.vm.pc + sourceBytes src) z'

/-- `A%=S` (modA … modN) complete in every state; the remainder by 0 is 0. -/
def Obligations.ModuloResult : Prop :=
  ∀ (src : Src) (s : State),
    encode (Instr.ofAlu .mod src) = sourceEncoding 160 src ∧
    ∃ z', exec (Instr.ofAlu .mod src) s = .next (s.setVm z') ∧
      s.vm.Wrote .a (BitVec.ofNat 32 (if s.vm.source src = 0 then 0 else s.vm.a.toNat % s.vm.source src))
        (s.vm.pc + sourceBytes src) z'

/-- `A&=S` (andA … andN) complete in every state. -/
def Obligations.AndResult : Prop :=
  ∀ (src : Src) (s : State),
    encode (Instr.ofAlu .and src) = sourceEncoding 168 src ∧
    ∃ z', exec (Instr.ofAlu .and src) s = .next (s.setVm z') ∧
      s.vm.Wrote .a (BitVec.ofNat 32 (s.vm.a.toNat &&& s.vm.source src)) (s.vm.pc + sourceBytes src) z'

/-- `A&~S` (andNotA … andNotN) complete in every state. -/
def Obligations.AndNotResult : Prop :=
  ∀ (src : Src) (s : State),
    encode (Instr.ofAlu .andNot src) = sourceEncoding 176 src ∧
    ∃ z', exec (Instr.ofAlu .andNot src) s = .next (s.setVm z') ∧
      s.vm.Wrote .a (BitVec.ofNat 32 (s.vm.a.toNat &&& (2 ^ 32 - 1 - s.vm.source src))) (s.vm.pc + sourceBytes src) z'

/-- `A|=S` (orA … orN) complete in every state. -/
def Obligations.OrResult : Prop :=
  ∀ (src : Src) (s : State),
    encode (Instr.ofAlu .or src) = sourceEncoding 184 src ∧
    ∃ z', exec (Instr.ofAlu .or src) s = .next (s.setVm z') ∧
      s.vm.Wrote .a (BitVec.ofNat 32 (s.vm.a.toNat ||| s.vm.source src)) (s.vm.pc + sourceBytes src) z'

/-- `A^=S` (xorA … xorN) complete in every state. -/
def Obligations.XorResult : Prop :=
  ∀ (src : Src) (s : State),
    encode (Instr.ofAlu .xor src) = sourceEncoding 192 src ∧
    ∃ z', exec (Instr.ofAlu .xor src) s = .next (s.setVm z') ∧
      s.vm.Wrote .a (BitVec.ofNat 32 (s.vm.a.toNat ^^^ s.vm.source src)) (s.vm.pc + sourceBytes src) z'

/-- `A<<=S` (shlA … shlN) complete in every state; the count is taken modulo 32. -/
def Obligations.ShiftLeftResult : Prop :=
  ∀ (src : Src) (s : State),
    encode (Instr.ofAlu .shl src) = sourceEncoding 200 src ∧
    ∃ z', exec (Instr.ofAlu .shl src) s = .next (s.setVm z') ∧
      s.vm.Wrote .a (BitVec.ofNat 32 (s.vm.a.toNat * 2 ^ (s.vm.source src % 32))) (s.vm.pc + sourceBytes src) z'

/-- `A>>=S` (shrA … shrN) complete in every state; the count is taken modulo 32. -/
def Obligations.ShiftRightResult : Prop :=
  ∀ (src : Src) (s : State),
    encode (Instr.ofAlu .shr src) = sourceEncoding 208 src ∧
    ∃ z', exec (Instr.ofAlu .shr src) s = .next (s.setVm z') ∧
      s.vm.Wrote .a (BitVec.ofNat 32 (s.vm.a.toNat / 2 ^ (s.vm.source src % 32))) (s.vm.pc + sourceBytes src) z'

/-- `A==S` (eqA … eqN) complete in every state: F is written, nothing else but PC. -/
def Obligations.EqualResult : Prop :=
  ∀ (src : Src) (s : State),
    encode (Instr.ofCmp .eq src) = sourceEncoding 216 src ∧
    ∃ z', exec (Instr.ofCmp .eq src) s = .next (s.setVm z') ∧
      s.vm.WroteFlag (decide (s.vm.a.toNat = s.vm.source src)) (s.vm.pc + sourceBytes src) z'

/-- `A<S` (ltA … ltN) complete in every state: F is written, nothing else but PC. -/
def Obligations.LessResult : Prop :=
  ∀ (src : Src) (s : State),
    encode (Instr.ofCmp .lt src) = sourceEncoding 224 src ∧
    ∃ z', exec (Instr.ofCmp .lt src) s = .next (s.setVm z') ∧
      s.vm.WroteFlag (decide (s.vm.a.toNat < s.vm.source src)) (s.vm.pc + sourceBytes src) z'

/-- `A>S` (gtA … gtN) complete in every state: F is written, nothing else but PC. -/
def Obligations.GreaterResult : Prop :=
  ∀ (src : Src) (s : State),
    encode (Instr.ofCmp .gt src) = sourceEncoding 232 src ∧
    ∃ z', exec (Instr.ofCmp .gt src) s = .next (s.setVm z') ∧
      s.vm.WroteFlag (decide (s.vm.source src < s.vm.a.toNat)) (s.vm.pc + sourceBytes src) z'

/-! ## Rules about all instructions -/

/-- No instruction but the 24 comparisons writes F, of either instance (R22). -/
def Obligations.OnlyComparisonsWriteF : Prop :=
  ∀ (i : Instr) (s t : State), exec i s = .next t → (∀ k src, i ≠ Instr.ofCmp k src) →
    t.hcomp.f = s.hcomp.f ∧ t.pcomp.f = s.pcomp.f

/-- No instruction but `R=A N` changes an element of R, of either instance (R24). -/
def Obligations.OnlyStoreRegisterWritesR : Prop :=
  ∀ (i : Instr) (s t : State), exec i s = .next t → (∀ n, i ≠ .stA n) →
    ∀ k, t.hcomp.readR k = s.hcomp.readR k ∧ t.pcomp.readR k = s.pcomp.readR k

/-- No instruction reaches the program store, the predictor, the coder, the PostProcessor or the other instance; with
HCOMP executing, none puts a byte to a sink (R82, R86, R540). -/
def Obligations.ExecReachesOnlyItsInstance : Prop :=
  ∀ (i : Instr) (s t : State), exec i s = .next t →
    (s.inst = .hcomp → t.pcomp = s.pcomp ∧ t.output = s.output ∧ t.checksum = s.checksum) ∧
    (s.inst = .pcomp → t.hcomp = s.hcomp) ∧ t.inst = s.inst ∧ s.vm.SameConfig t.vm ∧
    t.pred = s.pred ∧ t.coder = s.coder ∧ t.pp = s.pp ∧ t.header = s.header ∧ t.role = s.role ∧
    t.loaded = s.loaded ∧ t.caps = s.caps ∧ t.outSink = s.outSink ∧ t.sumSink = s.sumSink ∧
    t.reader = s.reader ∧ t.writer = s.writer ∧ t.requests = s.requests

/-! ## Invariants of every step -/

/-- Every step keeps the canonical form of every memory. -/
def Obligations.MemoryFormKept : Prop :=
  ∀ s t : State, s.MemoryForm → step s = .next t → t.MemoryForm

/-- Every step keeps the coder's invariants (R484). For a decode that runs out of bytes the bounds afterwards are the model's
reading, not R484's: R476 shifts `low` and `high` before it gets the byte, and the model follows R536 and R538, by which a
faulting step has written nothing (log 9). -/
def Obligations.CoderBoundsKept : Prop :=
  ∀ s t : State, s.coder.Bounds → step s = .next t → t.coder.Bounds

/-- Every step keeps the relation of `c8` and `hmap4` (R31, R32, R462). -/
def Obligations.PartialByteKept : Prop :=
  ∀ s t : State, s.PartialByte → step s = .next t → t.PartialByte

/-- Every step keeps the guard gap before the programs (R73, R76, R86). -/
def Obligations.GapBeforeProgramKept : Prop :=
  ∀ s t : State, s.GapBeforeProgram → step s = .next t → t.GapBeforeProgram

/-- Every step keeps a faulted core idle: it has no operation in progress (R537). -/
def Obligations.FaultedIsIdleKept : Prop :=
  ∀ s t : State, s.FaultedIsIdle → step s = .next t → t.FaultedIsIdle

/-- Every step keeps every `p[i]` in -2048 .. 2047 (R30). -/
def Obligations.OutputsInRangeKept : Prop :=
  ∀ s t : State, s.pred.OutputsInRange → step s = .next t → t.pred.OutputsInRange

/-- The state after reset has all of these. -/
def Obligations.ResetHasInvariants : Prop :=
  State.reset.MemoryForm ∧ State.reset.coder.Bounds ∧ State.reset.PartialByte ∧ State.reset.GapBeforeProgram ∧
    State.reset.FaultedIsIdle ∧ State.reset.pred.OutputsInRange

/-! ## The coder -/

/-- The split point is `low + floor(r * p / 65536)` and divides the range into two non-empty parts (R472). -/
def Obligations.SplitPoint : Prop :=
  ∀ (k : Coder) (p : Nat), k.low.toNat < k.high.toNat → p < 65536 →
    (k.mid p).toNat = k.low.toNat + (k.high.toNat - k.low.toNat) * p / 65536 ∧
    k.low.toNat ≤ (k.mid p).toNat ∧ (k.mid p).toNat < k.high.toNat

/-- `compress(EOS)` puts exactly the four bytes of `low` to the Writer, the most significant first, and ends with
`high = 0xFFFFFFFF` and `low` equal to 1 or to a power of 256; nothing else of the state differs (R478, R479). -/
def Obligations.EndOfSegmentFlush : Prop :=
  ∀ s : State, s.fault = none → s.phase = .work .encodeEos → s.coder.low.toNat < s.coder.high.toNat →
    ∃ k : Coder,
      step s = .next { s with
        coder := k
        writer := s.writer ++ [(s.coder.low >>> 24).setWidth 8, (s.coder.low >>> 16).setWidth 8,
          (s.coder.low >>> 8).setWidth 8, s.coder.low.setWidth 8]
        phase := .work (.finish .compressed) } ∧
      k.high = 0xFFFFFFFF ∧ k.curr = s.coder.curr ∧
      (k.low = 1 ∨ k.low = 0x100 ∨ k.low = 0x10000 ∨ k.low = 0x1000000)

/-- Decoding undoes encoding: from the reset coder, any sequence of bits, each with any probability below 65536, followed by
the end-of-segment flag and the four zero bytes of the trailer, decodes to the same bits and then to that flag, never
faults, consumes every byte, and leaves `curr = 0` and the encoder's `low` and `high` (R470, R477, R479, R482, R507). -/
def Obligations.CoderRoundTrip : Prop :=
  ∀ bits : List (Bool × Nat), (∀ b ∈ bits, b.2 < 65536) →
    let sent := Coder.reset.encodeAll bits
    let last := sent.1.encode true 0
    ∃ k rest d left e,
      Coder.loadCurr 4 .reset (sent.2 ++ last.2 ++ [0, 0, 0, 0]) = (k, rest, true) ∧
      k.decodeAll (bits.map (·.2)) rest = some (bits.map (·.1), d, left) ∧
      d.decode 0 left = .bit true e [] ∧ e.curr = 0 ∧ e.low = last.1.low ∧ e.high = last.1.high

/-- Lockstep: an encoding and a decoding core that agree on predictor, HCOMP instance, `low` and `high`, the one coding bit
`k` of `c`, the other about to decode a bit, `curr` in the part of the range of that bit and four bytes in the Reader, both
step and agree again; the decoder has appended the encoder's bit, and when the bit completes the byte both run HCOMP (R462,
R470, R507). -/
def Obligations.LockstepBit : Prop :=
  ∀ (e d : State) (c : Byte) (k : Nat) (v : BitVec 9), e.fault = none → d.fault = none →
    e.phase = .work (.encodeBits c (k + 1)) → d.phase = .work (.decodeBits v) → v.toNat < 256 →
    e.pred = d.pred → e.hcomp = d.hcomp → e.coder.low = d.coder.low → e.coder.high = d.coder.high →
    e.coder.low.toNat < e.coder.high.toNat →
    (e.coder.narrow (c.getLsbD k) (2 * e.pred.predict.p1 + 1)).low.toNat ≤ d.coder.curr.toNat →
    d.coder.curr.toNat ≤ (e.coder.narrow (c.getLsbD k) (2 * e.pred.predict.p1 + 1)).high.toNat →
    4 ≤ d.reader.length →
    ∃ e' d', step e = .next e' ∧ step d = .next d' ∧ e'.pred = d'.pred ∧ e'.hcomp = d'.hcomp ∧
      e'.coder.low = d'.coder.low ∧ e'.coder.high = d'.coder.high ∧
      ((e'.phase = .work (.encodeBits c k) ∧
          d'.phase = .work (.decodeBits (BitVec.ofNat 9 (2 * v.toNat + (c.getLsbD k).toNat)))) ∨
        (e'.phase = .run (.encodeBits c k) ∧ e'.inst = .hcomp ∧ d'.inst = .hcomp ∧
          d'.phase = .run (.decodeBits (BitVec.ofNat 9 (2 * v.toNat + (c.getLsbD k).toNat)))))

/-! ## The predictor -/

/-- `predict()` does not change `c8`, `hmap4`, `h[]`, nor any descriptor, `cm`, `a16`, `a`, `b` or `limit` (R429). -/
def Obligations.PredictLeavesTables : Prop :=
  ∀ q : Predictor,
    q.predict.c8 = q.c8 ∧ q.predict.hmap4 = q.hmap4 ∧ q.predict.h = q.h ∧
    q.predict.comps.length = q.comps.length ∧
    ∀ (i : Nat) (k k' : Component), q.comps[i]? = some k → q.predict.comps[i]? = some k' →
      k'.desc = k.desc ∧ k'.cm = k.cm ∧ k'.a16 = k.a16 ∧ k'.a = k.a ∧ k'.b = k.b ∧ k'.limit = k.limit

/-- `train`: the count in bits 9:0 rises by 1 while below `limit`, and the prediction in bits 31:10 moves by
`floor(error * dt[count] / 1024)` modulo 2^22 (R431). -/
def Obligations.TrainResult : Prop :=
  ∀ (pn : Word) (limit : Nat) (y : Bool), limit ≤ 1020 →
    (trainCell pn limit y).toNat % 1024 =
      (if pn.toNat % 1024 < limit then pn.toNat % 1024 + 1 else pn.toNat % 1024) ∧
    (((trainCell pn limit y).toNat / 1024 : Nat) : Int) =
      (((pn.toNat / 1024 : Nat) : Int) +
        ((if y then 32767 else 0) - ((pn.toNat / 131072 : Nat) : Int)) * (dt (pn.toNat % 1024) : Int) / 1024) % 4194304

/-- `find`: of the three rows probed, in the order h0, h1, h2, the first that holds the check byte is returned and the table
is unchanged; when none does, the row of lowest priority (byte 1) is evicted, h0 winning ties, h1 beating h2 only when
strictly lower: it gets the check byte and 15 zeros, and every byte outside it is unchanged. In every case the row is 16
bytes inside the table (R400). -/
def Obligations.FindRowResult : Prop :=
  ∀ (ht : List Host.Cell) (sizebits cxt : Nat), 2 ≤ sizebits →
    let r := findRow ht sizebits cxt
    let h0 := 16 * (cxt % 2 ^ sizebits)
    let chk := BitVec.ofNat 8 (cxt / 2 ^ sizebits)
    let h1 := h0 ^^^ 16
    let h2 := h0 ^^^ 32
    let pri := fun h => (peek 0#8 ht (h + 1)).toNat
    r.1 ∈ [h0, h1, h2] ∧ r.1 % 16 = 0 ∧ r.1 + 16 ≤ 16 * 2 ^ sizebits ∧ peek 0#8 r.2 r.1 = chk ∧
    (∀ j, j < r.1 ∨ r.1 + 16 ≤ j → peek 0#8 r.2 j = peek 0#8 ht j) ∧
    (peek 0#8 ht h0 = chk → r = (h0, ht)) ∧
    (peek 0#8 ht h0 ≠ chk → peek 0#8 ht h1 = chk → r = (h1, ht)) ∧
    (peek 0#8 ht h0 ≠ chk → peek 0#8 ht h1 ≠ chk → peek 0#8 ht h2 = chk → r = (h2, ht)) ∧
    (peek 0#8 ht h0 ≠ chk → peek 0#8 ht h1 ≠ chk → peek 0#8 ht h2 ≠ chk →
      (r.1 = if pri h0 ≤ pri h1 ∧ pri h0 ≤ pri h2 then h0 else if pri h1 < pri h2 then h1 else h2) ∧
      (∀ h ∈ [h0, h1, h2], pri r.1 ≤ pri h) ∧
      ∀ j, 1 ≤ j → j < 16 → peek 0#8 r.2 (r.1 + j) = 0#8)

/-- The step that codes a bit, of an encoding core and of a decoding core alike, ends in `update` of that bit: when the bit
completes the byte, a `run` of HCOMP has begun with the byte as A and PC at `hbegin`, nothing else of the instance set;
else no `run` begins and HCOMP is unchanged (`State.Updated`; R170, R430, R462, R478, R480). The decoding core appends the
bit that `decode(predict() * 2 + 1)` gives to its variable; when that decode faults, there is no `update`. -/
def Obligations.UpdateRunsHcomp : Prop :=
  ∀ s : State, s.fault = none → s.pred.c8.toNat < 256 →
    (∀ (c : Byte) (k : Nat), s.phase = .work (.encodeBits c (k + 1)) →
      ∃ t, step s = .next t ∧ s.Updated (c.getLsbD k) (.encodeBits c k) t) ∧
    ∀ v : BitVec 9, s.phase = .work (.decodeBits v) → v.toNat < 256 →
      (∀ y coder rest, s.coder.decode (2 * s.pred.predict.p1 + 1) s.reader = .bit y coder rest →
        ∃ t, step s = .next t ∧ t.coder = coder ∧ t.reader = rest ∧
          s.Updated y (.decodeBits (BitVec.ofNat 9 (2 * v.toNat + y.toNat))) t) ∧
      ((∀ y coder rest, s.coder.decode (2 * s.pred.predict.p1 + 1) s.reader ≠ .bit y coder rest) →
        ∃ t, step s = .next t ∧ t.fault ≠ none ∧ t.phase = .idle ∧ t.pred = s.pred.predict ∧
          t.hcomp = s.hcomp ∧ t.pcomp = s.pcomp)

/-- After the HCOMP `run` has returned, `c8` and `hmap4` are 1 and `h[i]` is `H[i mod HSIZE]` for every component; the
rest of the predictor and the instance are unchanged (R462, R463). -/
def Obligations.ContextsReloaded : Prop :=
  ∀ (s : State) (next : Task), s.fault = none → s.phase = .halted next → s.inst = .hcomp →
    ∃ t, step s = .next t ∧ t.pred.c8 = 1 ∧ t.pred.hmap4 = 1 ∧
      (∀ i, i < s.pred.comps.length → peek 0#32 t.pred.h i = s.hcomp.readH (i % 2 ^ s.hcomp.hbits)) ∧
      (∀ i, s.pred.comps.length ≤ i → peek 0#32 t.pred.h i = peek 0#32 s.pred.h i) ∧
      t.pred.comps = s.pred.comps ∧ t.pred.p = s.pred.p ∧ t.hcomp = s.hcomp ∧ t.phase = .work next

/-! ## `load`, the latch, the order of operations -/

/-- The parse reads back a header's bytes: the fields, the descriptors, the two sections; what follows is not read (R73,
R74, R112). -/
def Obligations.HeaderParsesBack : Prop :=
  ∀ (hh hm ph pm : Byte) (descs : List CompDesc) (hcomp extra : List Byte), descs.length ≤ 255 →
    hcomp.getLast? = some 0 → headerSize descs hcomp ≤ 65535 →
    parseHeader (compSection (headerSize descs hcomp) hh hm ph pm descs ++ hcomp ++ extra) =
      .ok { header := { hsize := BitVec.ofNat 16 (headerSize descs hcomp), hh := hh, hm := hm, ph := ph, pm := pm
                        n := BitVec.ofNat 8 descs.length }
            descs := descs, comp := compSection (headerSize descs hcomp) hh hm ph pm descs, hcomp := hcomp }

/-- The component checks pass exactly on well-formed lists, and report the fault of the lowest-numbered bad component
(R411). -/
def Obligations.ComponentChecks : Prop :=
  ∀ (caps : Caps) (ds : List CompDesc),
    (checkComponents caps 0 ds = none ↔ wellFormedFrom caps 0 ds = true) ∧
    ∀ f, checkComponents caps 0 ds = some f ↔
      ∃ j d, ds[j]? = some d ∧ checkComponent caps j d = some f ∧
        ∀ m d', m < j → ds[m]? = some d' → d'.wellFormed caps m = true

/-- What a successful `load` leaves (R49, R560 to R565): no fault; every register of HCOMP and all of R, M and H zero; its
program store the COMP section, 128 zeros and the HCOMP section, with `cend`, `hbegin` and `hend` as R73 places them; `c8`
and `hmap4` 1, `h[]` zero, `p[]` zero but for CONST; every component's fields and tables at the values of R35 to R42
(`c` of MIX2 and MIX: log 14; `cxtTop`, the model's own, 0: log 15); the coder's and the PostProcessor's reset values. No PCOMP instance is left: the model's record for it (log 12) is all zero with
an empty store. `curr` and the PostProcessor's state in an encoding core are the model's (log 21). What belongs to the host is untouched but for the report
(log 3). -/
def Obligations.LoadLeavesResetValues : Prop :=
  ∀ (s : State) (role : Role) (bytes : List Byte) (rest : List Request) (x : ParsedHeader),
    s.phase = .idle → s.requests = .load role bytes :: rest → checkHeader s.caps bytes = .ok x →
    ∃ t, step s = .next t ∧ t.fault = none ∧ t.loaded = true ∧ t.role = role ∧ t.phase = .idle ∧
      t.header = x.header ∧ t.hcomp.AllZero ∧ t.hcomp.mbits = x.header.hm.toNat ∧ t.hcomp.hbits = x.header.hh.toNat ∧
      x.comp ++ x.hcomp = bytes.take (x.header.hsize.toNat + 2) ∧ t.hcomp.cend = x.comp.length ∧
      t.hcomp.hbegin = t.hcomp.cend + 128 ∧ t.hcomp.hend = t.hcomp.hbegin + x.hcomp.length ∧
      (∀ j, t.hcomp.readP j = (x.comp ++ List.replicate 128 0 ++ x.hcomp).getD j 0) ∧
      t.pcomp.AllZero ∧ t.pcomp.mbits = 0 ∧ t.pcomp.hbits = 0 ∧ (∀ j, t.pcomp.readP j = 0) ∧
      t.pcomp.cend = 0 ∧ t.pcomp.hbegin = 0 ∧ t.pcomp.hend = 0 ∧
      t.pred.c8 = 1 ∧ t.pred.hmap4 = 1 ∧ (∀ i, peek 0#32 t.pred.h i = 0) ∧
      (∀ i, pAt t.pred.p i = match x.descs[i]? with
        | some (.const c) => ((c.toNat : Int) - 128) * 4
        | _ => 0) ∧
      t.pred.comps.map (·.desc) = x.descs ∧
      (∀ k ∈ t.pred.comps, k.FieldsAtReset ∧ k.TablesAtReset) ∧
      t.coder.low = 1 ∧ t.coder.high = 0xFFFFFFFF ∧ t.coder.curr = 0 ∧
      t.pp.state = .init ∧ t.pp.len = 0 ∧ t.pp.cnt = 0 ∧
      t.caps = s.caps ∧ t.reader = s.reader ∧ t.writer = s.writer ∧ t.output = s.output ∧ t.checksum = s.checksum ∧
      t.outSink = s.outSink ∧ t.sumSink = s.sumSink ∧ t.requests = rest ∧ t.reports = s.reports ++ [.loaded]

/-- `compress` and `step` before a successful `load` or after a fault are refused and change nothing of the core (R504, D15).
That an operation which the core's role does not offer (R470, R501, R560) is refused alike, that the role is the one named
at `load`, and what the host is told are the model's choice (logs 5 and 8). -/
def Obligations.OutOfOrderIsRefused : Prop :=
  ∀ (s : State) (q : Request) (rest : List Request), s.phase = .idle → s.requests = q :: rest →
    ((∃ c, q = .compress c) ∨ q = .compressEos ∨ q = .step) →
    (s.loaded = false ∨ s.fault ≠ none ∨ (q = .step ∧ s.role = .encoding) ∨ (q ≠ .step ∧ s.role = .decoding)) →
    step s = .next { s with requests := rest, reports := s.reports ++ [.refused] }

/-- The latch is `none` after reset, and a set latch is cleared by nothing but a `load`: any other step of a faulted core
changes nothing but the host's side; with nothing requested there is no step (R28, R536, R537). -/
def Obligations.LatchClearedOnlyByLoad : Prop :=
  State.reset.fault = none ∧
  ∀ (s : State) (f : CoreFault), s.fault = some f →
    (s.requests = [] → step s = .fault (.latched f)) ∧
    ∀ (q : Request) (rest : List Request), s.requests = q :: rest → (∀ role bytes, q ≠ .load role bytes) →
      ∃ t, step s = .next t ∧
        t = { s with requests := rest, reports := t.reports, reader := t.reader, outSink := t.outSink,
                     sumSink := t.sumSink }

/-! ## The PostProcessor -/

/-- States 0 to 3. INIT: the selector byte 0 goes to PASS, 1 to the program length, any other faults (R511). PASS: a byte
goes to each attached sink, EOS outputs nothing (R512). The length, low byte first; a length of 0 faults, else P' is
prepared with `ph` and `pm` at 4 and 5 and the program is awaited (R76, R513). EOS faults in states 0, 2 and 3. That a length
of 0 faults with `len` unwritten is the model's reading (log 9): R513 writes `len` before its check, and the model follows
R536 and R538, by which a faulting step has written nothing. That P'[0..1] are 0 until the program is complete is the model's
choice (log 24). -/
def Obligations.SelectorPassAndLength : Prop :=
  ∀ (s : State) (sym : Symbol), s.fault = none → s.phase = .work (.write sym) →
    (s.pp.state = .init →
      (sym = .byte 0 →
        step s = .next { s with pp := { s.pp with state := .pass }, phase := .work (.finish .byteProcessed) }) ∧
      (sym = .byte 1 →
        step s = .next { s with pp := { s.pp with state := .lenLow }, phase := .work (.finish .byteProcessed) }) ∧
      (∀ c, sym = .byte c → c ≠ 0 → c ≠ 1 → step s = .next (s.faultedBy .fmtPpType)) ∧
      (sym = .eos → step s = .next (s.faultedBy .fmtPpEos))) ∧
    (s.pp.state = .pass →
      (∀ c, sym = .byte c → step s = .next { s with
        output := if s.outSink = true then s.output ++ [c] else s.output
        checksum := if s.sumSink = true then s.checksum ++ [c] else s.checksum
        phase := .work (.finish .byteProcessed) }) ∧
      (sym = .eos → step s = .next { s with phase := .work (.finish .segmentEnded) })) ∧
    (s.pp.state = .lenLow →
      (∀ c, sym = .byte c → step s = .next { s with
        pp := { s.pp with len := BitVec.ofNat 16 c.toNat, state := .lenHigh }
        phase := .work (.finish .byteProcessed) }) ∧
      (sym = .eos → step s = .next (s.faultedBy .fmtPpEos))) ∧
    (s.pp.state = .lenHigh →
      (∀ c, sym = .byte c → (s.pp.len.toNat + 256 * c.toNat) % 65536 = 0 → step s = .next (s.faultedBy .fmtPpEmpty)) ∧
      (∀ c, sym = .byte c → (s.pp.len.toNat + 256 * c.toNat) % 65536 ≠ 0 → ∃ z,
        step s = .next { s with
          pp := { state := .program, len := BitVec.ofNat 16 (s.pp.len.toNat + 256 * c.toNat), cnt := 0 }
          pcomp := z, phase := .work (.finish .byteProcessed) } ∧
        z.cend = 8 ∧ z.hbegin = 136 ∧
        ∀ j, z.readP j = if j = 4 then s.header.ph else if j = 5 then s.header.pm else 0) ∧
      (sym = .eos → step s = .next (s.faultedBy .fmtPpEos)))

/-- State 4: the byte is stored at `hbegin' + cnt`; the last one closes the program and creates the PCOMP instance, all
zero with `2^pm` bytes of M and `2^ph` words of H, or faults when a size is above MAXLOG; EOS faults (R514). The model's
own: what a fault leaves unwritten (log 9), which byte it reports when both sizes are too large (log 19), and P'[0..1], the
low 16 bits of `hsize' = len + 6`, for `len` above 65529 (log 23). -/
def Obligations.ProgramByteResult : Prop :=
  ∀ (s : State) (sym : Symbol), s.fault = none → s.phase = .work (.write sym) → s.pp.state = .program →
    (sym = .eos → step s = .next (s.faultedBy .fmtPpEos)) ∧
    (∀ c, sym = .byte c → s.pp.cnt + 1 ≠ s.pp.len.toNat → ∃ z,
      step s = .next { s with pcomp := z, pp := { s.pp with cnt := s.pp.cnt + 1 }
                              phase := .work (.finish .byteProcessed) } ∧
      z = { s.pcomp with prog := z.prog } ∧
      ∀ j, z.readP j = if j = s.pcomp.hbegin + s.pp.cnt then c else s.pcomp.readP j) ∧
    (∀ c, sym = .byte c → s.pp.cnt + 1 = s.pp.len.toNat →
      s.header.ph.toNat ≤ s.caps.maxLog → s.header.pm.toNat ≤ s.caps.maxLog → 2 ≤ s.pcomp.hbegin → ∃ z,
      step s = .next { s with pcomp := z, pp := { s.pp with cnt := s.pp.cnt + 1, state := .running }
                              phase := .work (.finish .byteProcessed) } ∧
      z.AllZero ∧ z.mbits = s.header.pm.toNat ∧ z.hbits = s.header.ph.toNat ∧
      z.cend = s.pcomp.cend ∧ z.hbegin = s.pcomp.hbegin ∧ z.hend = s.pcomp.hbegin + s.pp.len.toNat ∧
      z.readP 0 = BitVec.ofNat 8 (s.pp.len.toNat + 6) ∧ z.readP 1 = BitVec.ofNat 8 ((s.pp.len.toNat + 6) / 256) ∧
      ∀ j, 2 ≤ j → z.readP j = if j = s.pcomp.hbegin + s.pp.cnt then c else s.pcomp.readP j) ∧
    (∀ c, sym = .byte c → s.pp.cnt + 1 = s.pp.len.toNat → s.caps.maxLog < s.header.ph.toNat →
      step s = .next (s.faultedBy (.resPcompSize s.header.ph))) ∧
    (∀ c, sym = .byte c → s.pp.cnt + 1 = s.pp.len.toNat → s.header.ph.toNat ≤ s.caps.maxLog →
      s.caps.maxLog < s.header.pm.toNat → step s = .next (s.faultedBy (.resPcompSize s.header.pm)))

/-- State 5: a byte starts a `run` of the PCOMP instance with that input, EOS one with 0xFFFFFFFF; A and PC are set and
nothing else of the instance (R170, R515). -/
def Obligations.RunningResult : Prop :=
  ∀ (s : State) (sym : Symbol), s.fault = none → s.phase = .work (.write sym) → s.pp.state = .running →
    (∀ c, sym = .byte c → step s = .next { s with
      pcomp := { s.pcomp with a := BitVec.ofNat 32 c.toNat, pc := s.pcomp.hbegin }
      inst := .pcomp, phase := .run (.finish .byteProcessed) }) ∧
    (sym = .eos → step s = .next { s with
      pcomp := { s.pcomp with a := 0xFFFFFFFF, pc := s.pcomp.hbegin }
      inst := .pcomp, phase := .run (.finish .segmentEnded) })
end

