-- ==== Sys2Proof/Laws/Coder.lean ====
section
/-! SUPPORT. The coder as arithmetic on numbers: the top byte, a shift, and the two renormalisation loops side by side. -/

namespace Sys2Proof.Machine

/-- The top byte test is about the quotients by 2^24. -/
theorem xor_lt_iff (x y : Word) : (x ^^^ y).toNat < 0x1000000 ↔ x.toNat / 2 ^ 24 = y.toNat / 2 ^ 24 := by
  have key : (x.toNat ^^^ y.toNat) / 2 ^ 24 = (x.toNat / 2 ^ 24) ^^^ (y.toNat / 2 ^ 24) := by
    simp only [← Nat.shiftRight_eq_div_pow, Nat.shiftRight_xor_distrib]
  rw [BitVec.toNat_xor, ← Nat.xor_eq_zero_iff, ← key]
  omega

theorem Coder.sameTop_iff (k : Coder) : k.sameTop = true ↔ k.high.toNat / 2 ^ 24 = k.low.toNat / 2 ^ 24 := by
  unfold Coder.sameTop
  rw [decide_eq_true_iff]
  exact xor_lt_iff k.high k.low

/-- Eight bits of a small value enter below a word. -/
theorem shiftIn_toNat (x v : Word) (hv : v.toNat < 256) : ((x <<< 8) ||| v).toNat = x.toNat % 2 ^ 24 * 256 + v.toNat := by
  have h : (x.toNat <<< 8) % 2 ^ 32 = (x.toNat % 2 ^ 24) <<< 8 := by simp only [Nat.shiftLeft_eq]; omega
  rw [BitVec.toNat_or, BitVec.toNat_shiftLeft, h, ← Nat.shiftLeft_add_eq_or_of_lt hv, Nat.shiftLeft_eq]

/-- A shift of `high`: eight 1 bits enter. -/
theorem Coder.shift_high (k : Coder) : k.shift.high.toNat = k.high.toNat % 2 ^ 24 * 256 + 255 :=
  shiftIn_toNat k.high 0xFF (by decide)

/-- A shift of `low`: eight 0 bits enter, and 0 becomes 1. -/
theorem Coder.shift_low (k : Coder) :
    k.shift.low.toNat = if k.low.toNat % 2 ^ 24 = 0 then 1 else k.low.toNat % 2 ^ 24 * 256 := by
  have hv : (k.low <<< 8).toNat = k.low.toNat % 2 ^ 24 * 256 := by
    simp only [BitVec.toNat_shiftLeft, Nat.shiftLeft_eq]; omega
  have h : k.shift.low = if k.low <<< 8 = (0 : Word) then (1 : Word) else k.low <<< 8 := rfl
  rw [h]
  by_cases h0 : k.low.toNat % 2 ^ 24 = 0
  · rw [if_pos h0, if_pos (BitVec.eq_of_toNat_eq (by rw [hv, h0]; rfl))]; rfl
  · rw [if_neg h0, if_neg fun he => h0 (by have := congrArg BitVec.toNat he; rw [hv] at this; simpa using this), hv]

@[simp] theorem Coder.shift_curr (k : Coder) : k.shift.curr = k.curr := rfl
@[simp] theorem Coder.pull_low (k : Coder) (b : Byte) : (k.pull b).low = k.low := rfl
@[simp] theorem Coder.pull_high (k : Coder) (b : Byte) : (k.pull b).high = k.high := rfl

/-- A byte enters `curr` at the bottom, the oldest leaves at the top. -/
theorem Coder.pull_curr (k : Coder) (b : Byte) : (k.pull b).curr.toNat = k.curr.toNat % 2 ^ 24 * 256 + b.toNat := by
  have hb := b.isLt
  refine (shiftIn_toNat k.curr (b.setWidth 32) ?_).trans ?_ <;> simp only [BitVec.toNat_setWidth] <;> omega

theorem Coder.topByte_toNat (k : Coder) : k.topByte.toNat = k.high.toNat / 2 ^ 24 := by
  have := k.high.isLt
  simp only [Coder.topByte, BitVec.toNat_setWidth, BitVec.toNat_ushiftRight, Nat.shiftRight_eq_div_pow]
  omega

/-- The decoder's loop makes the turns of the encoder's, on a coder with the same `low` and `high`, and takes from the Reader
one byte for each byte the encoder emits; it fails only for want of bytes. -/
theorem Coder.renormDecode_eq (fuel : Nat) (e d : Coder) (input : List Byte) (hl : d.low = e.low) (hh : d.high = e.high)
    (hin : (Coder.renormEncode fuel e).2.length ≤ input.length) :
    ∃ k, Coder.renormDecode fuel d input = some (k, input.drop (Coder.renormEncode fuel e).2.length) ∧
      k.low = (Coder.renormEncode fuel e).1.low ∧ k.high = (Coder.renormEncode fuel e).1.high := by
  induction fuel generalizing e d input with
  | zero => exact ⟨d, rfl, hl, hh⟩
  | succ n ih =>
    have hs : d.sameTop = e.sameTop := by simp [Coder.sameTop, hl, hh]
    unfold Coder.renormEncode Coder.renormDecode
    rw [hs]
    by_cases h : e.sameTop = true
    · simp only [h, if_true]
      have hlen : (Coder.renormEncode (n + 1) e).2.length = (Coder.renormEncode n e.shift).2.length + 1 := by
        simp [Coder.renormEncode, h]
      rw [hlen] at hin
      cases input with
      | nil => simp at hin
      | cons b rest =>
        obtain ⟨k, hk, hkl, hkh⟩ := ih e.shift (d.shift.pull b) rest (by simp [Coder.shift, hl]) (by simp [Coder.shift, hh])
          (by simpa using hin)
        exact ⟨k, by simpa using hk, hkl, hkh⟩
    · simp only [h]
      exact ⟨d, rfl, hl, hh⟩

/-- At most one byte is emitted per turn. -/
theorem Coder.renormEncode_length (fuel : Nat) (k : Coder) : (Coder.renormEncode fuel k).2.length ≤ fuel := by
  induction fuel generalizing k with
  | zero => simp [Coder.renormEncode]
  | succ n ih => unfold Coder.renormEncode; split <;> simp [ih]

@[simp] theorem Coder.renormEncode_curr (fuel : Nat) (k : Coder) : (Coder.renormEncode fuel k).1.curr = k.curr := by
  induction fuel generalizing k with
  | zero => rfl
  | succ n ih => unfold Coder.renormEncode; split <;> simp [ih]

end Sys2Proof.Machine
end

