-- ==== Sys2Proof/Laws/Memory.lean ====
section
/-! SUPPORT. The laws of the sparse memories: a read after a write, and the canonical form. The read laws hold of every
list, in canonical form or not. -/

namespace Sys2Proof.Machine

variable {α : Type}

@[simp] theorem peek_nil (d : α) (k : Nat) : peek d [] k = d := rfl

/-! ### A read after a write -/

theorem peek_filter_self (d : α) (mem : List (Nat × α)) (k : Nat) : peek d (mem.filter (fun e => e.1 != k)) k = d := by
  induction mem with
  | nil => rfl
  | cons e rest ih =>
    by_cases h : e.1 = k
    · simp [h, ih]
    · simp [h, peek, ih]

theorem peek_filter_other (d : α) (mem : List (Nat × α)) {k j : Nat} (h : j ≠ k) :
    peek d (mem.filter (fun e => e.1 != k)) j = peek d mem j := by
  induction mem with
  | nil => rfl
  | cons e rest ih =>
    by_cases he : e.1 = k
    · have : ¬ e.1 = j := fun hj => h (hj.symm.trans he)
      simp [he, peek, ih, Ne.symm h]
    · simp [he, peek, ih]

theorem peek_insertAt_self (d : α) (mem : List (Nat × α)) (k : Nat) (v : α) (h : ∀ e ∈ mem, e.1 ≠ k) :
    peek d (insertAt k v mem) k = v := by
  induction mem with
  | nil => simp [insertAt, peek]
  | cons e rest ih =>
    have he := h e (by simp)
    unfold insertAt
    split
    · simp [peek]
    · simp [peek, he, ih fun x hx => h x (by simp [hx])]

theorem peek_insertAt_other (d : α) (mem : List (Nat × α)) {k j : Nat} (v : α) (h : j ≠ k) :
    peek d (insertAt k v mem) j = peek d mem j := by
  induction mem with
  | nil => simp [insertAt, peek, Ne.symm h]
  | cons e rest ih =>
    unfold insertAt
    split
    · simp [peek, Ne.symm h]
    · simp [peek, ih]

/-- A read after a write to the same place gives the value written. -/
@[simp] theorem peek_poke_self [DecidableEq α] (d : α) (mem : List (Nat × α)) (k : Nat) (v : α) :
    peek d (poke d mem k v) k = v := by
  unfold poke
  split
  · next h => rw [h, peek_filter_self]
  · exact peek_insertAt_self d _ k v fun e he => by simpa using (List.mem_filter.mp he).2

/-- A write leaves every other place alone, whatever it reads as when unlisted. -/
theorem peek_poke_other [DecidableEq α] (d d' : α) (mem : List (Nat × α)) {k j : Nat} (v : α) (h : j ≠ k) :
    peek d' (poke d mem k v) j = peek d' mem j := by
  unfold poke
  split
  · exact peek_filter_other d' mem h
  · rw [peek_insertAt_other d' _ v h, peek_filter_other d' mem h]

/-- Both laws at once. -/
theorem peek_poke [DecidableEq α] (d : α) (mem : List (Nat × α)) (k : Nat) (v : α) (j : Nat) :
    peek d (poke d mem k v) j = if j = k then v else peek d mem j := by
  split
  · next h => rw [h, peek_poke_self]
  · next h => exact peek_poke_other d d mem v h

/-- Consecutive bytes: those written, and every other place as before. -/
theorem peek_pokeBytes (mem : List Host.Cell) (bs : List Byte) (k j : Nat) :
    peek 0#8 (pokeBytes mem k bs) j =
      if k ≤ j ∧ j < k + bs.length then (bs[j - k]?).getD 0#8 else peek 0#8 mem j := by
  induction bs generalizing mem k with
  | nil => simp [pokeBytes]
  | cons b rest ih =>
    unfold pokeBytes
    rw [ih, show poke 0 mem k b = poke 0#8 mem k b from rfl, peek_poke]
    by_cases h1 : j = k
    · subst h1; simp
    · by_cases h2 : k ≤ j
      · obtain ⟨m, rfl⟩ : ∃ m, j = k + 1 + m := ⟨j - k - 1, by omega⟩
        have : k + 1 + m - k = m + 1 := by omega
        have h3 : k + 1 + m - (k + 1) = m := by omega
        simp only [this, h3, List.length_cons, List.getElem?_cons_succ]
        by_cases h4 : m < rest.length
        · rw [if_pos (by omega), if_pos (by omega)]
        · rw [if_neg (by omega), if_neg (by omega), if_neg (by omega)]
      · rw [if_neg (by omega), if_neg h1, if_neg (by omega)]

/-! ### The canonical form -/

theorem memWf_nil (dflt : Nat → α) (size : Nat) : MemWf dflt size [] :=
  ⟨List.Pairwise.nil, fun _ h => absurd h List.not_mem_nil⟩

theorem memWf_filter {dflt : Nat → α} {size : Nat} {mem : List (Nat × α)} (h : MemWf dflt size mem) (k : Nat) :
    MemWf dflt size (mem.filter (fun e => e.1 != k)) :=
  ⟨h.1.filter _, fun e he => h.2 e (List.mem_filter.mp he).1⟩

theorem mem_insertAt {k : Nat} {v : α} {mem : List (Nat × α)} {e : Nat × α} (h : e ∈ insertAt k v mem) :
    e = (k, v) ∨ e ∈ mem := by
  induction mem with
  | nil => simpa [insertAt] using h
  | cons a rest ih =>
    unfold insertAt at h
    split at h
    · simpa using h
    · rcases List.mem_cons.mp h with rfl | h
      · simp
      · rcases ih h with rfl | h
        · simp
        · simp [h]

theorem pairwise_insertAt {k : Nat} {v : α} {mem : List (Nat × α)} (h : mem.Pairwise (fun x y => x.1 < y.1))
    (hk : ∀ e ∈ mem, e.1 ≠ k) : (insertAt k v mem).Pairwise (fun x y => x.1 < y.1) := by
  induction mem with
  | nil => simp [insertAt]
  | cons a rest ih =>
    have ha := List.pairwise_cons.mp h
    unfold insertAt
    split
    · next hlt =>
      refine List.pairwise_cons.mpr ⟨fun e he => ?_, h⟩
      rcases List.mem_cons.mp he with rfl | he
      · exact hlt
      · exact Nat.lt_trans hlt (ha.1 e he)
    · next hlt =>
      refine List.pairwise_cons.mpr ⟨fun e he => ?_, ih ha.2 fun e he => hk e (by simp [he])⟩
      have := hk a (by simp)
      rcases mem_insertAt he with rfl | he
      · show a.1 < k
        omega
      · exact ha.1 e he

/-- A write in range keeps the canonical form: writing what an unlisted element reads as unlists it. -/
theorem memWf_poke [DecidableEq α] {dflt : Nat → α} {size : Nat} {mem : List (Nat × α)} (h : MemWf dflt size mem)
    {k : Nat} (hk : k < size) (v : α) : MemWf dflt size (poke (dflt k) mem k v) := by
  unfold poke
  have hf := memWf_filter h k
  split
  · exact hf
  · next hv =>
    have hne : ∀ e ∈ mem.filter (fun e => e.1 != k), e.1 ≠ k := fun e he => by simpa using (List.mem_filter.mp he).2
    refine ⟨pairwise_insertAt hf.1 hne, fun e he => ?_⟩
    rcases mem_insertAt he with rfl | he
    · exact ⟨hk, hv⟩
    · exact hf.2 e he

/-- Consecutive bytes in range keep the canonical form. -/
theorem memWf_pokeBytes {size : Nat} {mem : List Host.Cell} (h : MemWf (fun _ => 0#8) size mem) (bs : List Byte) (k : Nat)
    (hk : k + bs.length ≤ size) : MemWf (fun _ => 0#8) size (pokeBytes mem k bs) := by
  induction bs generalizing mem k with
  | nil => exact h
  | cons b rest ih =>
    simp only [List.length_cons] at hk
    exact ih (memWf_poke h (by omega) b) (k + 1) (by omega)

/-- The part of the canonical form that names no size. -/
theorem pairwise_poke [DecidableEq α] {d : α} {mem : List (Nat × α)}
    (h : mem.Pairwise (fun x y => x.1 < y.1) ∧ ∀ e ∈ mem, e.2 ≠ d) (k : Nat) (v : α) :
    (poke d mem k v).Pairwise (fun x y => x.1 < y.1) ∧ ∀ e ∈ poke d mem k v, e.2 ≠ d := by
  obtain ⟨size, hs⟩ : ∃ size, (∀ e ∈ mem, e.1 < size) ∧ k < size :=
    ⟨(mem.map (·.1)).sum + k + 1, fun e he => by
      have := List.le_sum_of_mem (List.mem_map_of_mem (f := (·.1)) he); omega, by omega⟩
  have := memWf_poke (dflt := fun _ => d) (size := size) (mem := mem) ⟨h.1, fun e he => ⟨hs.1 e he, h.2 e he⟩⟩ hs.2 v
  exact ⟨this.1, fun e he => (this.2 e he).2⟩

theorem pairwise_pokeBytes {mem : List Host.Cell} (h : mem.Pairwise (fun x y => x.1 < y.1) ∧ ∀ e ∈ mem, e.2 ≠ 0#8)
    (bs : List Byte) (k : Nat) :
    (pokeBytes mem k bs).Pairwise (fun x y => x.1 < y.1) ∧ ∀ e ∈ pokeBytes mem k bs, e.2 ≠ 0#8 := by
  induction bs generalizing mem k with
  | nil => exact h
  | cons b rest ih => exact ih (pairwise_poke h k b) (k + 1)

end Sys2Proof.Machine
end

