-- ==== Sys2Proof/Laws/State.lean ====
section
/-! SUPPORT. One lemma per field per update of State and of its parts. -/

namespace Sys2Proof.Machine

/-! ### The executing instance -/

@[simp] theorem State.vm_setVm (s : State) (z : Zpaql) : (s.setVm z).vm = z := by
  cases h : s.inst <;> simp [State.setVm, State.vm, h]

@[simp] theorem State.pred_setVm (s : State) (z : Zpaql) : (s.setVm z).pred = s.pred := by
  cases h : s.inst <;> simp [State.setVm, h]
@[simp] theorem State.coder_setVm (s : State) (z : Zpaql) : (s.setVm z).coder = s.coder := by
  cases h : s.inst <;> simp [State.setVm, h]
@[simp] theorem State.pp_setVm (s : State) (z : Zpaql) : (s.setVm z).pp = s.pp := by
  cases h : s.inst <;> simp [State.setVm, h]
@[simp] theorem State.fault_setVm (s : State) (z : Zpaql) : (s.setVm z).fault = s.fault := by
  cases h : s.inst <;> simp [State.setVm, h]
@[simp] theorem State.header_setVm (s : State) (z : Zpaql) : (s.setVm z).header = s.header := by
  cases h : s.inst <;> simp [State.setVm, h]
@[simp] theorem State.role_setVm (s : State) (z : Zpaql) : (s.setVm z).role = s.role := by
  cases h : s.inst <;> simp [State.setVm, h]
@[simp] theorem State.loaded_setVm (s : State) (z : Zpaql) : (s.setVm z).loaded = s.loaded := by
  cases h : s.inst <;> simp [State.setVm, h]
@[simp] theorem State.caps_setVm (s : State) (z : Zpaql) : (s.setVm z).caps = s.caps := by
  cases h : s.inst <;> simp [State.setVm, h]
@[simp] theorem State.inst_setVm (s : State) (z : Zpaql) : (s.setVm z).inst = s.inst := by
  cases h : s.inst <;> simp [State.setVm, h]
@[simp] theorem State.phase_setVm (s : State) (z : Zpaql) : (s.setVm z).phase = s.phase := by
  cases h : s.inst <;> simp [State.setVm, h]
@[simp] theorem State.outSink_setVm (s : State) (z : Zpaql) : (s.setVm z).outSink = s.outSink := by
  cases h : s.inst <;> simp [State.setVm, h]
@[simp] theorem State.sumSink_setVm (s : State) (z : Zpaql) : (s.setVm z).sumSink = s.sumSink := by
  cases h : s.inst <;> simp [State.setVm, h]
@[simp] theorem State.reader_setVm (s : State) (z : Zpaql) : (s.setVm z).reader = s.reader := by
  cases h : s.inst <;> simp [State.setVm, h]
@[simp] theorem State.writer_setVm (s : State) (z : Zpaql) : (s.setVm z).writer = s.writer := by
  cases h : s.inst <;> simp [State.setVm, h]
@[simp] theorem State.output_setVm (s : State) (z : Zpaql) : (s.setVm z).output = s.output := by
  cases h : s.inst <;> simp [State.setVm, h]
@[simp] theorem State.checksum_setVm (s : State) (z : Zpaql) : (s.setVm z).checksum = s.checksum := by
  cases h : s.inst <;> simp [State.setVm, h]
@[simp] theorem State.requests_setVm (s : State) (z : Zpaql) : (s.setVm z).requests = s.requests := by
  cases h : s.inst <;> simp [State.setVm, h]
@[simp] theorem State.reports_setVm (s : State) (z : Zpaql) : (s.setVm z).reports = s.reports := by
  cases h : s.inst <;> simp [State.setVm, h]

@[simp] theorem State.setVm_setVm (s : State) (z z' : Zpaql) : (s.setVm z).setVm z' = s.setVm z' := by
  cases h : s.inst <;> simp [State.setVm, h]
@[simp] theorem State.setVm_vm (s : State) : s.setVm s.vm = s := by
  rcases s with ⟨_, _, _, _, _, _, _, _, _, _, i, _⟩
  cases i <;> rfl
theorem State.hcomp_setVm (s : State) (z : Zpaql) : (s.setVm z).hcomp = if s.inst = .hcomp then z else s.hcomp := by
  cases h : s.inst <;> simp [State.setVm, h]
theorem State.pcomp_setVm (s : State) (z : Zpaql) : (s.setVm z).pcomp = if s.inst = .pcomp then z else s.pcomp := by
  cases h : s.inst <;> simp [State.setVm, h]
theorem State.onVm_eq (s : State) (g : Zpaql → Zpaql) : s.onVm g = s.setVm (g s.vm) := rfl
theorem State.complete_eq (s : State) (len : Nat) (g : Zpaql → Zpaql) :
    s.complete len g = s.setVm ((g s.vm).advance len) := rfl

/-! ### Taking a fault -/

@[simp] theorem State.pred_raise (f : CoreFault) (s : State) : (s.raise f).pred = s.pred := rfl
@[simp] theorem State.coder_raise (f : CoreFault) (s : State) : (s.raise f).coder = s.coder := rfl
@[simp] theorem State.pp_raise (f : CoreFault) (s : State) : (s.raise f).pp = s.pp := rfl
@[simp] theorem State.fault_raise (f : CoreFault) (s : State) : (s.raise f).fault = some f := rfl
@[simp] theorem State.header_raise (f : CoreFault) (s : State) : (s.raise f).header = s.header := rfl
@[simp] theorem State.role_raise (f : CoreFault) (s : State) : (s.raise f).role = s.role := rfl
@[simp] theorem State.loaded_raise (f : CoreFault) (s : State) : (s.raise f).loaded = s.loaded := rfl
@[simp] theorem State.caps_raise (f : CoreFault) (s : State) : (s.raise f).caps = s.caps := rfl
@[simp] theorem State.inst_raise (f : CoreFault) (s : State) : (s.raise f).inst = s.inst := rfl
@[simp] theorem State.phase_raise (f : CoreFault) (s : State) : (s.raise f).phase = .idle := rfl
@[simp] theorem State.outSink_raise (f : CoreFault) (s : State) : (s.raise f).outSink = s.outSink := rfl
@[simp] theorem State.sumSink_raise (f : CoreFault) (s : State) : (s.raise f).sumSink = s.sumSink := rfl
@[simp] theorem State.reader_raise (f : CoreFault) (s : State) : (s.raise f).reader = s.reader := rfl
@[simp] theorem State.writer_raise (f : CoreFault) (s : State) : (s.raise f).writer = s.writer := rfl
@[simp] theorem State.output_raise (f : CoreFault) (s : State) : (s.raise f).output = s.output := rfl
@[simp] theorem State.checksum_raise (f : CoreFault) (s : State) : (s.raise f).checksum = s.checksum := rfl
@[simp] theorem State.requests_raise (f : CoreFault) (s : State) : (s.raise f).requests = s.requests := rfl
@[simp] theorem State.reports_raise (f : CoreFault) (s : State) : (s.raise f).reports = s.reports ++ [.faulted f] := rfl
@[simp] theorem State.hcomp_raise (f : CoreFault) (s : State) : (s.raise f).hcomp = s.hcomp := rfl
@[simp] theorem State.pcomp_raise (f : CoreFault) (s : State) : (s.raise f).pcomp = s.pcomp := rfl
theorem State.raise_eq_faultedBy (f : CoreFault) (s : State) : s.raise f = s.faultedBy f := rfl

/-! ### An instance -/

@[simp] theorem Zpaql.a_advance (z : Zpaql) (k : Nat) : (Zpaql.advance k z).a = z.a := rfl
@[simp] theorem Zpaql.b_advance (z : Zpaql) (k : Nat) : (Zpaql.advance k z).b = z.b := rfl
@[simp] theorem Zpaql.c_advance (z : Zpaql) (k : Nat) : (Zpaql.advance k z).c = z.c := rfl
@[simp] theorem Zpaql.d_advance (z : Zpaql) (k : Nat) : (Zpaql.advance k z).d = z.d := rfl
@[simp] theorem Zpaql.f_advance (z : Zpaql) (k : Nat) : (Zpaql.advance k z).f = z.f := rfl
@[simp] theorem Zpaql.pc_advance (z : Zpaql) (k : Nat) : (Zpaql.advance k z).pc = z.pc + k := rfl
@[simp] theorem Zpaql.r_advance (z : Zpaql) (k : Nat) : (Zpaql.advance k z).r = z.r := rfl
@[simp] theorem Zpaql.m_advance (z : Zpaql) (k : Nat) : (Zpaql.advance k z).m = z.m := rfl
@[simp] theorem Zpaql.h_advance (z : Zpaql) (k : Nat) : (Zpaql.advance k z).h = z.h := rfl
@[simp] theorem Zpaql.mbits_advance (z : Zpaql) (k : Nat) : (Zpaql.advance k z).mbits = z.mbits := rfl
@[simp] theorem Zpaql.hbits_advance (z : Zpaql) (k : Nat) : (Zpaql.advance k z).hbits = z.hbits := rfl
@[simp] theorem Zpaql.prog_advance (z : Zpaql) (k : Nat) : (Zpaql.advance k z).prog = z.prog := rfl
@[simp] theorem Zpaql.cend_advance (z : Zpaql) (k : Nat) : (Zpaql.advance k z).cend = z.cend := rfl
@[simp] theorem Zpaql.hbegin_advance (z : Zpaql) (k : Nat) : (Zpaql.advance k z).hbegin = z.hbegin := rfl
@[simp] theorem Zpaql.hend_advance (z : Zpaql) (k : Nat) : (Zpaql.advance k z).hend = z.hend := rfl
@[simp] theorem Zpaql.a_writeM (z : Zpaql) (k : Nat) (v : Byte) : (z.writeM k v).a = z.a := rfl
@[simp] theorem Zpaql.b_writeM (z : Zpaql) (k : Nat) (v : Byte) : (z.writeM k v).b = z.b := rfl
@[simp] theorem Zpaql.c_writeM (z : Zpaql) (k : Nat) (v : Byte) : (z.writeM k v).c = z.c := rfl
@[simp] theorem Zpaql.d_writeM (z : Zpaql) (k : Nat) (v : Byte) : (z.writeM k v).d = z.d := rfl
@[simp] theorem Zpaql.f_writeM (z : Zpaql) (k : Nat) (v : Byte) : (z.writeM k v).f = z.f := rfl
@[simp] theorem Zpaql.pc_writeM (z : Zpaql) (k : Nat) (v : Byte) : (z.writeM k v).pc = z.pc := rfl
@[simp] theorem Zpaql.r_writeM (z : Zpaql) (k : Nat) (v : Byte) : (z.writeM k v).r = z.r := rfl
@[simp] theorem Zpaql.m_writeM (z : Zpaql) (k : Nat) (v : Byte) : (z.writeM k v).m = poke 0 z.m k v := rfl
@[simp] theorem Zpaql.h_writeM (z : Zpaql) (k : Nat) (v : Byte) : (z.writeM k v).h = z.h := rfl
@[simp] theorem Zpaql.mbits_writeM (z : Zpaql) (k : Nat) (v : Byte) : (z.writeM k v).mbits = z.mbits := rfl
@[simp] theorem Zpaql.hbits_writeM (z : Zpaql) (k : Nat) (v : Byte) : (z.writeM k v).hbits = z.hbits := rfl
@[simp] theorem Zpaql.prog_writeM (z : Zpaql) (k : Nat) (v : Byte) : (z.writeM k v).prog = z.prog := rfl
@[simp] theorem Zpaql.cend_writeM (z : Zpaql) (k : Nat) (v : Byte) : (z.writeM k v).cend = z.cend := rfl
@[simp] theorem Zpaql.hbegin_writeM (z : Zpaql) (k : Nat) (v : Byte) : (z.writeM k v).hbegin = z.hbegin := rfl
@[simp] theorem Zpaql.hend_writeM (z : Zpaql) (k : Nat) (v : Byte) : (z.writeM k v).hend = z.hend := rfl
@[simp] theorem Zpaql.a_writeH (z : Zpaql) (k : Nat) (v : Word) : (z.writeH k v).a = z.a := rfl
@[simp] theorem Zpaql.b_writeH (z : Zpaql) (k : Nat) (v : Word) : (z.writeH k v).b = z.b := rfl
@[simp] theorem Zpaql.c_writeH (z : Zpaql) (k : Nat) (v : Word) : (z.writeH k v).c = z.c := rfl
@[simp] theorem Zpaql.d_writeH (z : Zpaql) (k : Nat) (v : Word) : (z.writeH k v).d = z.d := rfl
@[simp] theorem Zpaql.f_writeH (z : Zpaql) (k : Nat) (v : Word) : (z.writeH k v).f = z.f := rfl
@[simp] theorem Zpaql.pc_writeH (z : Zpaql) (k : Nat) (v : Word) : (z.writeH k v).pc = z.pc := rfl
@[simp] theorem Zpaql.r_writeH (z : Zpaql) (k : Nat) (v : Word) : (z.writeH k v).r = z.r := rfl
@[simp] theorem Zpaql.m_writeH (z : Zpaql) (k : Nat) (v : Word) : (z.writeH k v).m = z.m := rfl
@[simp] theorem Zpaql.h_writeH (z : Zpaql) (k : Nat) (v : Word) : (z.writeH k v).h = poke 0 z.h k v := rfl
@[simp] theorem Zpaql.mbits_writeH (z : Zpaql) (k : Nat) (v : Word) : (z.writeH k v).mbits = z.mbits := rfl
@[simp] theorem Zpaql.hbits_writeH (z : Zpaql) (k : Nat) (v : Word) : (z.writeH k v).hbits = z.hbits := rfl
@[simp] theorem Zpaql.prog_writeH (z : Zpaql) (k : Nat) (v : Word) : (z.writeH k v).prog = z.prog := rfl
@[simp] theorem Zpaql.cend_writeH (z : Zpaql) (k : Nat) (v : Word) : (z.writeH k v).cend = z.cend := rfl
@[simp] theorem Zpaql.hbegin_writeH (z : Zpaql) (k : Nat) (v : Word) : (z.writeH k v).hbegin = z.hbegin := rfl
@[simp] theorem Zpaql.hend_writeH (z : Zpaql) (k : Nat) (v : Word) : (z.writeH k v).hend = z.hend := rfl
@[simp] theorem Zpaql.a_writeR (z : Zpaql) (n : Byte) (v : Word) : (z.writeR n v).a = z.a := rfl
@[simp] theorem Zpaql.b_writeR (z : Zpaql) (n : Byte) (v : Word) : (z.writeR n v).b = z.b := rfl
@[simp] theorem Zpaql.c_writeR (z : Zpaql) (n : Byte) (v : Word) : (z.writeR n v).c = z.c := rfl
@[simp] theorem Zpaql.d_writeR (z : Zpaql) (n : Byte) (v : Word) : (z.writeR n v).d = z.d := rfl
@[simp] theorem Zpaql.f_writeR (z : Zpaql) (n : Byte) (v : Word) : (z.writeR n v).f = z.f := rfl
@[simp] theorem Zpaql.pc_writeR (z : Zpaql) (n : Byte) (v : Word) : (z.writeR n v).pc = z.pc := rfl
@[simp] theorem Zpaql.r_writeR (z : Zpaql) (n : Byte) (v : Word) : (z.writeR n v).r = poke 0 z.r n.toNat v := rfl
@[simp] theorem Zpaql.m_writeR (z : Zpaql) (n : Byte) (v : Word) : (z.writeR n v).m = z.m := rfl
@[simp] theorem Zpaql.h_writeR (z : Zpaql) (n : Byte) (v : Word) : (z.writeR n v).h = z.h := rfl
@[simp] theorem Zpaql.mbits_writeR (z : Zpaql) (n : Byte) (v : Word) : (z.writeR n v).mbits = z.mbits := rfl
@[simp] theorem Zpaql.hbits_writeR (z : Zpaql) (n : Byte) (v : Word) : (z.writeR n v).hbits = z.hbits := rfl
@[simp] theorem Zpaql.prog_writeR (z : Zpaql) (n : Byte) (v : Word) : (z.writeR n v).prog = z.prog := rfl
@[simp] theorem Zpaql.cend_writeR (z : Zpaql) (n : Byte) (v : Word) : (z.writeR n v).cend = z.cend := rfl
@[simp] theorem Zpaql.hbegin_writeR (z : Zpaql) (n : Byte) (v : Word) : (z.writeR n v).hbegin = z.hbegin := rfl
@[simp] theorem Zpaql.hend_writeR (z : Zpaql) (n : Byte) (v : Word) : (z.writeR n v).hend = z.hend := rfl

/-! ### The discard of a block, a `load`, a `write` -/

@[simp] theorem State.hcomp_discard (s : State) (role : Role) : (s.discard role).hcomp = .blank := rfl
@[simp] theorem State.pcomp_discard (s : State) (role : Role) : (s.discard role).pcomp = .blank := rfl
@[simp] theorem State.pred_discard (s : State) (role : Role) : (s.discard role).pred = .blank := rfl
@[simp] theorem State.coder_discard (s : State) (role : Role) : (s.discard role).coder = .reset := rfl
@[simp] theorem State.pp_discard (s : State) (role : Role) : (s.discard role).pp = .reset := rfl
@[simp] theorem State.fault_discard (s : State) (role : Role) : (s.discard role).fault = none := rfl
@[simp] theorem State.header_discard (s : State) (role : Role) : (s.discard role).header = .blank := rfl
@[simp] theorem State.role_discard (s : State) (role : Role) : (s.discard role).role = role := rfl
@[simp] theorem State.loaded_discard (s : State) (role : Role) : (s.discard role).loaded = false := rfl
@[simp] theorem State.caps_discard (s : State) (role : Role) : (s.discard role).caps = s.caps := rfl
@[simp] theorem State.inst_discard (s : State) (role : Role) : (s.discard role).inst = .hcomp := rfl
@[simp] theorem State.phase_discard (s : State) (role : Role) : (s.discard role).phase = .idle := rfl
@[simp] theorem State.outSink_discard (s : State) (role : Role) : (s.discard role).outSink = s.outSink := rfl
@[simp] theorem State.sumSink_discard (s : State) (role : Role) : (s.discard role).sumSink = s.sumSink := rfl
@[simp] theorem State.reader_discard (s : State) (role : Role) : (s.discard role).reader = s.reader := rfl
@[simp] theorem State.writer_discard (s : State) (role : Role) : (s.discard role).writer = s.writer := rfl
@[simp] theorem State.output_discard (s : State) (role : Role) : (s.discard role).output = s.output := rfl
@[simp] theorem State.checksum_discard (s : State) (role : Role) : (s.discard role).checksum = s.checksum := rfl
@[simp] theorem State.requests_discard (s : State) (role : Role) : (s.discard role).requests = s.requests := rfl
@[simp] theorem State.reports_discard (s : State) (role : Role) : (s.discard role).reports = s.reports := rfl
@[simp] theorem State.hcomp_wrote (s : State) (sym : Symbol) : (s.wrote sym).hcomp = s.hcomp := rfl
@[simp] theorem State.pcomp_wrote (s : State) (sym : Symbol) : (s.wrote sym).pcomp = s.pcomp := rfl
@[simp] theorem State.pred_wrote (s : State) (sym : Symbol) : (s.wrote sym).pred = s.pred := rfl
@[simp] theorem State.coder_wrote (s : State) (sym : Symbol) : (s.wrote sym).coder = s.coder := rfl
@[simp] theorem State.pp_wrote (s : State) (sym : Symbol) : (s.wrote sym).pp = s.pp := rfl
@[simp] theorem State.fault_wrote (s : State) (sym : Symbol) : (s.wrote sym).fault = s.fault := rfl
@[simp] theorem State.header_wrote (s : State) (sym : Symbol) : (s.wrote sym).header = s.header := rfl
@[simp] theorem State.role_wrote (s : State) (sym : Symbol) : (s.wrote sym).role = s.role := rfl
@[simp] theorem State.loaded_wrote (s : State) (sym : Symbol) : (s.wrote sym).loaded = s.loaded := rfl
@[simp] theorem State.caps_wrote (s : State) (sym : Symbol) : (s.wrote sym).caps = s.caps := rfl
@[simp] theorem State.inst_wrote (s : State) (sym : Symbol) : (s.wrote sym).inst = s.inst := rfl
@[simp] theorem State.phase_wrote (s : State) (sym : Symbol) : (s.wrote sym).phase = .work (.finish sym.report) := rfl
@[simp] theorem State.outSink_wrote (s : State) (sym : Symbol) : (s.wrote sym).outSink = s.outSink := rfl
@[simp] theorem State.sumSink_wrote (s : State) (sym : Symbol) : (s.wrote sym).sumSink = s.sumSink := rfl
@[simp] theorem State.reader_wrote (s : State) (sym : Symbol) : (s.wrote sym).reader = s.reader := rfl
@[simp] theorem State.writer_wrote (s : State) (sym : Symbol) : (s.wrote sym).writer = s.writer := rfl
@[simp] theorem State.output_wrote (s : State) (sym : Symbol) : (s.wrote sym).output = s.output := rfl
@[simp] theorem State.checksum_wrote (s : State) (sym : Symbol) : (s.wrote sym).checksum = s.checksum := rfl
@[simp] theorem State.requests_wrote (s : State) (sym : Symbol) : (s.wrote sym).requests = s.requests := rfl
@[simp] theorem State.reports_wrote (s : State) (sym : Symbol) : (s.wrote sym).reports = s.reports := rfl

end Sys2Proof.Machine
end

