-- ==== Sys2Proof/Laws/Operands.lean ====
section
/-! SUPPORT. What the operand forms read and write, in the terms of Safety.lean; what they keep. -/

namespace Sys2Proof.Machine

/-! ### Values -/

theorem Zpaql.toNat_readLoc (z : Zpaql) (x : Loc) : (z.readLoc x).toNat = z.held x := by
  cases x <;> simp [Zpaql.readLoc, Zpaql.held, Zpaql.mIndex, Zpaql.hIndex, Zpaql.msize, Zpaql.hsize] <;> omega

theorem Zpaql.toNat_readSrc (z : Zpaql) (src : Src) : (z.readSrc src).toNat = z.source src := by
  cases src with
  | loc x => exact z.toNat_readLoc x
  | imm n => simp [Zpaql.readSrc, Zpaql.source]; omega

theorem Zpaql.held_lt (z : Zpaql) (x : Loc) : z.held x < 2 ^ 32 := z.toNat_readLoc x ▸ (z.readLoc x).isLt

theorem Zpaql.source_lt (z : Zpaql) (src : Src) : z.source src < 2 ^ 32 := z.toNat_readSrc src ▸ (z.readSrc src).isLt

theorem Zpaql.readLoc_eq (z : Zpaql) (x : Loc) : z.readLoc x = BitVec.ofNat 32 (z.held x) := by
  rw [← z.toNat_readLoc x]; simp

theorem Zpaql.readSrc_eq (z : Zpaql) (src : Src) : z.readSrc src = BitVec.ofNat 32 (z.source src) := by
  rw [← z.toNat_readSrc src]; simp

theorem srcLength_eq (src : Src) : srcLength src = sourceBytes src := by cases src <;> rfl

theorem displacement_eq (n : Byte) : displacement n = sext8 n := by
  unfold displacement sext8; split <;> split <;> omega

/-! ### Writes -/

theorem Zpaql.sameConfig_refl (z : Zpaql) : z.SameConfig z := ⟨rfl, rfl, rfl, rfl, rfl, rfl⟩

theorem Zpaql.readM_writeM (z : Zpaql) (k : Nat) (v : Byte) (j : Nat) :
    (z.writeM k v).readM j = setAt z.readM k v j := peek_poke (0 : Byte) z.m k v j

theorem Zpaql.readH_writeH (z : Zpaql) (k : Nat) (v : Word) (j : Nat) :
    (z.writeH k v).readH j = setAt z.readH k v j := peek_poke (0 : Word) z.h k v j

theorem Zpaql.readR_writeR (z : Zpaql) (n : Byte) (v : Word) (k : Byte) :
    (z.writeR n v).readR k = if k = n then v else z.readR k := by
  refine (peek_poke (0 : Word) z.r n.toNat v k.toNat).trans ?_
  by_cases h : k = n
  · simp [h]
  · rw [if_neg h, if_neg fun hk => h (BitVec.eq_of_toNat_eq hk)]; rfl

/-- What a write to a location does, PC then moved by `k`. -/
theorem Zpaql.wrote_writeLoc (z : Zpaql) (x : Loc) (v : Word) (k : Nat) :
    z.Wrote x v (z.pc + k) ((z.writeLoc x v).advance k) := by
  cases x
  case mb =>
    exact ⟨rfl, rfl, rfl, rfl, rfl, rfl, fun j => z.readM_writeM _ _ j, fun _ => rfl, fun _ => rfl, z.sameConfig_refl⟩
  case mc =>
    exact ⟨rfl, rfl, rfl, rfl, rfl, rfl, fun j => z.readM_writeM _ _ j, fun _ => rfl, fun _ => rfl, z.sameConfig_refl⟩
  case hd =>
    exact ⟨rfl, rfl, rfl, rfl, rfl, rfl, fun _ => rfl, fun j => z.readH_writeH _ _ j, fun _ => rfl, z.sameConfig_refl⟩
  all_goals exact ⟨rfl, rfl, rfl, rfl, rfl, rfl, fun _ => rfl, fun _ => rfl, fun _ => rfl, z.sameConfig_refl⟩

/-! ### What a write keeps -/

theorem Zpaql.mIndex_lt (z : Zpaql) (r : Word) : z.mIndex r < 2 ^ z.mbits := Nat.mod_lt _ (Nat.two_pow_pos _)

theorem Zpaql.hIndex_lt (z : Zpaql) (r : Word) : z.hIndex r < 2 ^ z.hbits := Nat.mod_lt _ (Nat.two_pow_pos _)

theorem Zpaql.sameConfig_writeLoc (z : Zpaql) (x : Loc) (v : Word) : z.SameConfig (z.writeLoc x v) := by
  cases x <;> exact z.sameConfig_refl

@[simp] theorem Zpaql.f_writeLoc (z : Zpaql) (x : Loc) (v : Word) : (z.writeLoc x v).f = z.f := by cases x <;> rfl

@[simp] theorem Zpaql.r_writeLoc (z : Zpaql) (x : Loc) (v : Word) : (z.writeLoc x v).r = z.r := by cases x <;> rfl

@[simp] theorem Zpaql.pc_writeLoc (z : Zpaql) (x : Loc) (v : Word) : (z.writeLoc x v).pc = z.pc := by cases x <;> rfl

theorem Zpaql.memoryForm_writeLoc {z : Zpaql} (h : z.MemoryForm) (x : Loc) (v : Word) :
    (z.writeLoc x v).MemoryForm := by
  obtain ⟨hr, hm, hh, hp⟩ := h
  cases x
  case mb => exact ⟨hr, memWf_poke hm (z.mIndex_lt _) _, hh, hp⟩
  case mc => exact ⟨hr, memWf_poke hm (z.mIndex_lt _) _, hh, hp⟩
  case hd => exact ⟨hr, hm, memWf_poke hh (z.hIndex_lt _) _, hp⟩
  all_goals exact ⟨hr, hm, hh, hp⟩

theorem Zpaql.memoryForm_writeR {z : Zpaql} (h : z.MemoryForm) (n : Byte) (v : Word) : (z.writeR n v).MemoryForm :=
  ⟨memWf_poke h.1 n.isLt v, h.2⟩

end Sys2Proof.Machine
end

