-- ==== Sys2Proof/Laws/Exec.lean ====
section
/-! SUPPORT. What each shared operation of the meanings does, and what any instruction can do, once. -/

namespace Sys2Proof.Machine

/-! ### Families of constructors are their shared operation -/

theorem exec_ofInc (x : Loc) (s : State) : exec (Instr.ofInc x) s = increment x s := by cases x <;> rfl
theorem exec_ofDec (x : Loc) (s : State) : exec (Instr.ofDec x) s = decrement x s := by cases x <;> rfl
theorem exec_ofNot (x : Loc) (s : State) : exec (Instr.ofNot x) s = complement x s := by cases x <;> rfl
theorem exec_ofZero (x : Loc) (s : State) : exec (Instr.ofZero x) s = clear x s := by cases x <;> rfl
theorem exec_ofMov (x : Loc) (src : Src) (s : State) : exec (Instr.ofMov x src) s = assign x src s := by
  cases src with
  | loc y => cases x <;> cases y <;> rfl
  | imm n => cases x <;> rfl
theorem exec_ofAlu (k : AluOp) (src : Src) (s : State) : exec (Instr.ofAlu k src) s = operate k src s := by
  cases src with
  | loc y => cases k <;> cases y <;> rfl
  | imm n => cases k <;> rfl
theorem exec_ofCmp (k : CmpOp) (src : Src) (s : State) : exec (Instr.ofCmp k src) s = compare k src s := by
  cases src with
  | loc y => cases k <;> cases y <;> rfl
  | imm n => cases k <;> rfl

/-! ### What any instruction can do -/

/-- The four ways an instruction ends, `z'` being its instance afterwards: it changes the instance alone; it raises a
fault; it ends the `run`; it puts a byte. -/
def Reaches (s : State) (z' : Zpaql) (o : StepOutcome) : Prop :=
  o = .next (s.setVm z') ∨ (∃ f, o = .next ((s.setVm z').raise f)) ∨
    o = .next { s.setVm z' with phase := s.phase.afterHalt } ∨
    ∃ b, o = .next ((s.setVm z').putByte s.outAttached s.sumAttached b)

/-- What an instruction keeps of its instance: the configuration, the canonical form, F unless `cmp`, R unless `st`. -/
def Keeps (z z' : Zpaql) (cmp st : Prop) : Prop :=
  z.SameConfig z' ∧ (z.MemoryForm → z'.MemoryForm) ∧ (¬ cmp → z'.f = z.f) ∧ (¬ st → z'.r = z.r)

theorem keeps_refl (z : Zpaql) (cmp st : Prop) : Keeps z z cmp st :=
  ⟨z.sameConfig_refl, id, fun _ => rfl, fun _ => rfl⟩

theorem keeps_writeLoc (z : Zpaql) (x : Loc) (v : Word) (cmp st : Prop) : Keeps z (z.writeLoc x v) cmp st :=
  ⟨z.sameConfig_writeLoc x v, fun h => Zpaql.memoryForm_writeLoc h x v, fun _ => z.f_writeLoc x v,
    fun _ => z.r_writeLoc x v⟩

/-- PC and A are no part of what is kept. -/
theorem Keeps.pc {z z' : Zpaql} {cmp st : Prop} (h : Keeps z z' cmp st) (n : Nat) : Keeps z { z' with pc := n } cmp st := h
theorem Keeps.a {z z' : Zpaql} {cmp st : Prop} (h : Keeps z z' cmp st) (v : Word) : Keeps z { z' with a := v } cmp st := h

variable (cmp st : Prop) (s : State)

theorem complete_reaches {s : State} {cmp st : Prop} (len : Nat) {g : Zpaql → Zpaql} (h : Keeps s.vm (g s.vm) cmp st) :
    ∃ z', Reaches s z' (.next (s.complete len g)) ∧ Keeps s.vm z' cmp st :=
  ⟨_, .inl rfl, h.pc _⟩

theorem raise_reaches (k : Nat) (f : CoreFault) :
    ∃ z', Reaches s z' (.next ((s.onVm (·.advance k)).raise f)) ∧ Keeps s.vm z' cmp st :=
  ⟨_, .inr (.inl ⟨f, rfl⟩), (keeps_refl s.vm cmp st).pc _⟩

theorem increment_reaches (x : Loc) : ∃ z', Reaches s z' (increment x s) ∧ Keeps s.vm z' cmp st :=
  complete_reaches 1 (keeps_writeLoc ..)
theorem decrement_reaches (x : Loc) : ∃ z', Reaches s z' (decrement x s) ∧ Keeps s.vm z' cmp st :=
  complete_reaches 1 (keeps_writeLoc ..)
theorem complement_reaches (x : Loc) : ∃ z', Reaches s z' (complement x s) ∧ Keeps s.vm z' cmp st :=
  complete_reaches 1 (keeps_writeLoc ..)
theorem clear_reaches (x : Loc) : ∃ z', Reaches s z' (clear x s) ∧ Keeps s.vm z' cmp st :=
  complete_reaches 1 (keeps_writeLoc ..)
theorem swapWord_reaches (x : Loc) : ∃ z', Reaches s z' (swapWord x s) ∧ Keeps s.vm z' cmp st :=
  complete_reaches 1 ((keeps_writeLoc ..).a _)
theorem swapByte_reaches (x : Loc) : ∃ z', Reaches s z' (swapByte x s) ∧ Keeps s.vm z' cmp st :=
  complete_reaches 1 ((keeps_writeLoc ..).a _)
theorem assign_reaches (x : Loc) (src : Src) : ∃ z', Reaches s z' (assign x src s) ∧ Keeps s.vm z' cmp st :=
  complete_reaches _ (keeps_writeLoc ..)
theorem operate_reaches (k : AluOp) (src : Src) : ∃ z', Reaches s z' (operate k src s) ∧ Keeps s.vm z' cmp st :=
  complete_reaches _ ((keeps_refl ..).a _)
theorem compare_reaches {cmp : Prop} (h : cmp) (k : CmpOp) (src : Src) :
    ∃ z', Reaches s z' (compare k src s) ∧ Keeps s.vm z' cmp st :=
  complete_reaches _ ⟨(s.vm).sameConfig_refl, id, fun n => absurd h n, fun _ => rfl⟩
theorem loadReg_reaches (x : Loc) (n : Byte) : ∃ z', Reaches s z' (loadReg x n s) ∧ Keeps s.vm z' cmp st :=
  complete_reaches 2 (keeps_writeLoc ..)
theorem storeReg_reaches {st : Prop} (h : st) (n : Byte) : ∃ z', Reaches s z' (storeReg n s) ∧ Keeps s.vm z' cmp st :=
  complete_reaches 2 ⟨(s.vm).sameConfig_refl, fun m => Zpaql.memoryForm_writeR m n _, fun _ => rfl, fun n => absurd h n⟩
theorem jumpIf_reaches (taken : Bool) (n : Byte) : ∃ z', Reaches s z' (jumpIf taken n s) ∧ Keeps s.vm z' cmp st :=
  ⟨_, .inl rfl, (keeps_refl ..).pc _⟩
theorem longJump_reaches (nl nh : Byte) : ∃ z', Reaches s z' (longJump nl nh s) ∧ Keeps s.vm z' cmp st := by
  unfold longJump
  dsimp only
  split
  · exact raise_reaches cmp st s 3 _
  · exact ⟨_, .inl rfl, (keeps_refl ..).pc _⟩
theorem halt_reaches : ∃ z', Reaches s z' (halt s) ∧ Keeps s.vm z' cmp st :=
  ⟨s.vm.advance 1, .inr (.inr (.inl (by
    unfold halt
    simp [State.complete_eq]))), (keeps_refl ..).pc _⟩
theorem outByte_reaches : ∃ z', Reaches s z' (outByte s) ∧ Keeps s.vm z' cmp st :=
  ⟨s.vm.advance 1, .inr (.inr (.inr ⟨_, rfl⟩)), (keeps_refl ..).pc _⟩
theorem hashA_reaches : ∃ z', Reaches s z' (hashA s) ∧ Keeps s.vm z' cmp st :=
  complete_reaches 1 ((keeps_refl ..).a _)
theorem hashD_reaches : ∃ z', Reaches s z' (hashD s) ∧ Keeps s.vm z' cmp st :=
  complete_reaches 1 (keeps_writeLoc ..)
theorem errorOpcode_reaches : ∃ z', Reaches s z' (errorOpcode s) ∧ Keeps s.vm z' cmp st := raise_reaches ..
theorem undefinedOpcode_reaches (op : Byte) : ∃ z', Reaches s z' (undefinedOpcode op s) ∧ Keeps s.vm z' cmp st :=
  raise_reaches ..

/-- What any instruction does: only a comparison writes F, only `R=A N` writes R. -/
theorem exec_reaches (i : Instr) (s : State) :
    ∃ z', Reaches s z' (exec i s) ∧ Keeps s.vm z' (∃ k src, i = Instr.ofCmp k src) (∃ n, i = .stA n) :=
  match i with
  | .error => errorOpcode_reaches _ _ s
  | .incA => increment_reaches _ _ s .a
  | .decA => decrement_reaches _ _ s .a
  | .notA => complement_reaches _ _ s .a
  | .zeroA => clear_reaches _ _ s .a
  | .undef5 => undefinedOpcode_reaches _ _ s 5
  | .undef6 => undefinedOpcode_reaches _ _ s 6
  | .ldA n => loadReg_reaches _ _ s .a n
  | .swapB => swapWord_reaches _ _ s .b
  | .incB => increment_reaches _ _ s .b
  | .decB => decrement_reaches _ _ s .b
  | .notB => complement_reaches _ _ s .b
  | .zeroB => clear_reaches _ _ s .b
  | .undef13 => undefinedOpcode_reaches _ _ s 13
  | .undef14 => undefinedOpcode_reaches _ _ s 14
  | .ldB n => loadReg_reaches _ _ s .b n
  | .swapC => swapWord_reaches _ _ s .c
  | .incC => increment_reaches _ _ s .c
  | .decC => decrement_reaches _ _ s .c
  | .notC => complement_reaches _ _ s .c
  | .zeroC => clear_reaches _ _ s .c
  | .undef21 => undefinedOpcode_reaches _ _ s 21
  | .undef22 => undefinedOpcode_reaches _ _ s 22
  | .ldC n => loadReg_reaches _ _ s .c n
  | .swapD => swapWord_reaches _ _ s .d
  | .incD => increment_reaches _ _ s .d
  | .decD => decrement_reaches _ _ s .d
  | .notD => complement_reaches _ _ s .d
  | .zeroD => clear_reaches _ _ s .d
  | .undef29 => undefinedOpcode_reaches _ _ s 29
  | .undef30 => undefinedOpcode_reaches _ _ s 30
  | .ldD n => loadReg_reaches _ _ s .d n
  | .swapMb => swapByte_reaches _ _ s .mb
  | .incMb => increment_reaches _ _ s .mb
  | .decMb => decrement_reaches _ _ s .mb
  | .notMb => complement_reaches _ _ s .mb
  | .zeroMb => clear_reaches _ _ s .mb
  | .undef37 => undefinedOpcode_reaches _ _ s 37
  | .undef38 => undefinedOpcode_reaches _ _ s 38
  | .jt n => jumpIf_reaches _ _ s _ n
  | .swapMc => swapByte_reaches _ _ s .mc
  | .incMc => increment_reaches _ _ s .mc
  | .decMc => decrement_reaches _ _ s .mc
  | .notMc => complement_reaches _ _ s .mc
  | .zeroMc => clear_reaches _ _ s .mc
  | .undef45 => undefinedOpcode_reaches _ _ s 45
  | .undef46 => undefinedOpcode_reaches _ _ s 46
  | .jf n => jumpIf_reaches _ _ s _ n
  | .swapHd => swapWord_reaches _ _ s .hd
  | .incHd => increment_reaches _ _ s .hd
  | .decHd => decrement_reaches _ _ s .hd
  | .notHd => complement_reaches _ _ s .hd
  | .zeroHd => clear_reaches _ _ s .hd
  | .undef53 => undefinedOpcode_reaches _ _ s 53
  | .undef54 => undefinedOpcode_reaches _ _ s 54
  | .stA n => storeReg_reaches _ s ⟨n, rfl⟩ n
  | .halt => halt_reaches _ _ s
  | .out => outByte_reaches _ _ s
  | .undef58 => undefinedOpcode_reaches _ _ s 58
  | .hash => hashA_reaches _ _ s
  | .hashd => hashD_reaches _ _ s
  | .undef61 => undefinedOpcode_reaches _ _ s 61
  | .undef62 => undefinedOpcode_reaches _ _ s 62
  | .jmp n => jumpIf_reaches _ _ s _ n
  | .movAA => assign_reaches _ _ s .a (.loc .a)
  | .movAB => assign_reaches _ _ s .a (.loc .b)
  | .movAC => assign_reaches _ _ s .a (.loc .c)
  | .movAD => assign_reaches _ _ s .a (.loc .d)
  | .movAMb => assign_reaches _ _ s .a (.loc .mb)
  | .movAMc => assign_reaches _ _ s .a (.loc .mc)
  | .movAHd => assign_reaches _ _ s .a (.loc .hd)
  | .movAN n => assign_reaches _ _ s .a (.imm n)
  | .movBA => assign_reaches _ _ s .b (.loc .a)
  | .movBB => assign_reaches _ _ s .b (.loc .b)
  | .movBC => assign_reaches _ _ s .b (.loc .c)
  | .movBD => assign_reaches _ _ s .b (.loc .d)
  | .movBMb => assign_reaches _ _ s .b (.loc .mb)
  | .movBMc => assign_reaches _ _ s .b (.loc .mc)
  | .movBHd => assign_reaches _ _ s .b (.loc .hd)
  | .movBN n => assign_reaches _ _ s .b (.imm n)
  | .movCA => assign_reaches _ _ s .c (.loc .a)
  | .movCB => assign_reaches _ _ s .c (.loc .b)
  | .movCC => assign_reaches _ _ s .c (.loc .c)
  | .movCD => assign_reaches _ _ s .c (.loc .d)
  | .movCMb => assign_reaches _ _ s .c (.loc .mb)
  | .movCMc => assign_reaches _ _ s .c (.loc .mc)
  | .movCHd => assign_reaches _ _ s .c (.loc .hd)
  | .movCN n => assign_reaches _ _ s .c (.imm n)
  | .movDA => assign_reaches _ _ s .d (.loc .a)
  | .movDB => assign_reaches _ _ s .d (.loc .b)
  | .movDC => assign_reaches _ _ s .d (.loc .c)
  | .movDD => assign_reaches _ _ s .d (.loc .d)
  | .movDMb => assign_reaches _ _ s .d (.loc .mb)
  | .movDMc => assign_reaches _ _ s .d (.loc .mc)
  | .movDHd => assign_reaches _ _ s .d (.loc .hd)
  | .movDN n => assign_reaches _ _ s .d (.imm n)
  | .movMbA => assign_reaches _ _ s .mb (.loc .a)
  | .movMbB => assign_reaches _ _ s .mb (.loc .b)
  | .movMbC => assign_reaches _ _ s .mb (.loc .c)
  | .movMbD => assign_reaches _ _ s .mb (.loc .d)
  | .movMbMb => assign_reaches _ _ s .mb (.loc .mb)
  | .movMbMc => assign_reaches _ _ s .mb (.loc .mc)
  | .movMbHd => assign_reaches _ _ s .mb (.loc .hd)
  | .movMbN n => assign_reaches _ _ s .mb (.imm n)
  | .movMcA => assign_reaches _ _ s .mc (.loc .a)
  | .movMcB => assign_reaches _ _ s .mc (.loc .b)
  | .movMcC => assign_reaches _ _ s .mc (.loc .c)
  | .movMcD => assign_reaches _ _ s .mc (.loc .d)
  | .movMcMb => assign_reaches _ _ s .mc (.loc .mb)
  | .movMcMc => assign_reaches _ _ s .mc (.loc .mc)
  | .movMcHd => assign_reaches _ _ s .mc (.loc .hd)
  | .movMcN n => assign_reaches _ _ s .mc (.imm n)
  | .movHdA => assign_reaches _ _ s .hd (.loc .a)
  | .movHdB => assign_reaches _ _ s .hd (.loc .b)
  | .movHdC => assign_reaches _ _ s .hd (.loc .c)
  | .movHdD => assign_reaches _ _ s .hd (.loc .d)
  | .movHdMb => assign_reaches _ _ s .hd (.loc .mb)
  | .movHdMc => assign_reaches _ _ s .hd (.loc .mc)
  | .movHdHd => assign_reaches _ _ s .hd (.loc .hd)
  | .movHdN n => assign_reaches _ _ s .hd (.imm n)
  | .undef120 => undefinedOpcode_reaches _ _ s 120
  | .undef121 => undefinedOpcode_reaches _ _ s 121
  | .undef122 => undefinedOpcode_reaches _ _ s 122
  | .undef123 => undefinedOpcode_reaches _ _ s 123
  | .undef124 => undefinedOpcode_reaches _ _ s 124
  | .undef125 => undefinedOpcode_reaches _ _ s 125
  | .undef126 => undefinedOpcode_reaches _ _ s 126
  | .undef127 => undefinedOpcode_reaches _ _ s 127
  | .addA => operate_reaches _ _ s .add (.loc .a)
  | .addB => operate_reaches _ _ s .add (.loc .b)
  | .addC => operate_reaches _ _ s .add (.loc .c)
  | .addD => operate_reaches _ _ s .add (.loc .d)
  | .addMb => operate_reaches _ _ s .add (.loc .mb)
  | .addMc => operate_reaches _ _ s .add (.loc .mc)
  | .addHd => operate_reaches _ _ s .add (.loc .hd)
  | .addN n => operate_reaches _ _ s .add (.imm n)
  | .subA => operate_reaches _ _ s .sub (.loc .a)
  | .subB => operate_reaches _ _ s .sub (.loc .b)
  | .subC => operate_reaches _ _ s .sub (.loc .c)
  | .subD => operate_reaches _ _ s .sub (.loc .d)
  | .subMb => operate_reaches _ _ s .sub (.loc .mb)
  | .subMc => operate_reaches _ _ s .sub (.loc .mc)
  | .subHd => operate_reaches _ _ s .sub (.loc .hd)
  | .subN n => operate_reaches _ _ s .sub (.imm n)
  | .mulA => operate_reaches _ _ s .mul (.loc .a)
  | .mulB => operate_reaches _ _ s .mul (.loc .b)
  | .mulC => operate_reaches _ _ s .mul (.loc .c)
  | .mulD => operate_reaches _ _ s .mul (.loc .d)
  | .mulMb => operate_reaches _ _ s .mul (.loc .mb)
  | .mulMc => operate_reaches _ _ s .mul (.loc .mc)
  | .mulHd => operate_reaches _ _ s .mul (.loc .hd)
  | .mulN n => operate_reaches _ _ s .mul (.imm n)
  | .divA => operate_reaches _ _ s .div (.loc .a)
  | .divB => operate_reaches _ _ s .div (.loc .b)
  | .divC => operate_reaches _ _ s .div (.loc .c)
  | .divD => operate_reaches _ _ s .div (.loc .d)
  | .divMb => operate_reaches _ _ s .div (.loc .mb)
  | .divMc => operate_reaches _ _ s .div (.loc .mc)
  | .divHd => operate_reaches _ _ s .div (.loc .hd)
  | .divN n => operate_reaches _ _ s .div (.imm n)
  | .modA => operate_reaches _ _ s .mod (.loc .a)
  | .modB => operate_reaches _ _ s .mod (.loc .b)
  | .modC => operate_reaches _ _ s .mod (.loc .c)
  | .modD => operate_reaches _ _ s .mod (.loc .d)
  | .modMb => operate_reaches _ _ s .mod (.loc .mb)
  | .modMc => operate_reaches _ _ s .mod (.loc .mc)
  | .modHd => operate_reaches _ _ s .mod (.loc .hd)
  | .modN n => operate_reaches _ _ s .mod (.imm n)
  | .andA => operate_reaches _ _ s .and (.loc .a)
  | .andB => operate_reaches _ _ s .and (.loc .b)
  | .andC => operate_reaches _ _ s .and (.loc .c)
  | .andD => operate_reaches _ _ s .and (.loc .d)
  | .andMb => operate_reaches _ _ s .and (.loc .mb)
  | .andMc => operate_reaches _ _ s .and (.loc .mc)
  | .andHd => operate_reaches _ _ s .and (.loc .hd)
  | .andN n => operate_reaches _ _ s .and (.imm n)
  | .andNotA => operate_reaches _ _ s .andNot (.loc .a)
  | .andNotB => operate_reaches _ _ s .andNot (.loc .b)
  | .andNotC => operate_reaches _ _ s .andNot (.loc .c)
  | .andNotD => operate_reaches _ _ s .andNot (.loc .d)
  | .andNotMb => operate_reaches _ _ s .andNot (.loc .mb)
  | .andNotMc => operate_reaches _ _ s .andNot (.loc .mc)
  | .andNotHd => operate_reaches _ _ s .andNot (.loc .hd)
  | .andNotN n => operate_reaches _ _ s .andNot (.imm n)
  | .orA => operate_reaches _ _ s .or (.loc .a)
  | .orB => operate_reaches _ _ s .or (.loc .b)
  | .orC => operate_reaches _ _ s .or (.loc .c)
  | .orD => operate_reaches _ _ s .or (.loc .d)
  | .orMb => operate_reaches _ _ s .or (.loc .mb)
  | .orMc => operate_reaches _ _ s .or (.loc .mc)
  | .orHd => operate_reaches _ _ s .or (.loc .hd)
  | .orN n => operate_reaches _ _ s .or (.imm n)
  | .xorA => operate_reaches _ _ s .xor (.loc .a)
  | .xorB => operate_reaches _ _ s .xor (.loc .b)
  | .xorC => operate_reaches _ _ s .xor (.loc .c)
  | .xorD => operate_reaches _ _ s .xor (.loc .d)
  | .xorMb => operate_reaches _ _ s .xor (.loc .mb)
  | .xorMc => operate_reaches _ _ s .xor (.loc .mc)
  | .xorHd => operate_reaches _ _ s .xor (.loc .hd)
  | .xorN n => operate_reaches _ _ s .xor (.imm n)
  | .shlA => operate_reaches _ _ s .shl (.loc .a)
  | .shlB => operate_reaches _ _ s .shl (.loc .b)
  | .shlC => operate_reaches _ _ s .shl (.loc .c)
  | .shlD => operate_reaches _ _ s .shl (.loc .d)
  | .shlMb => operate_reaches _ _ s .shl (.loc .mb)
  | .shlMc => operate_reaches _ _ s .shl (.loc .mc)
  | .shlHd => operate_reaches _ _ s .shl (.loc .hd)
  | .shlN n => operate_reaches _ _ s .shl (.imm n)
  | .shrA => operate_reaches _ _ s .shr (.loc .a)
  | .shrB => operate_reaches _ _ s .shr (.loc .b)
  | .shrC => operate_reaches _ _ s .shr (.loc .c)
  | .shrD => operate_reaches _ _ s .shr (.loc .d)
  | .shrMb => operate_reaches _ _ s .shr (.loc .mb)
  | .shrMc => operate_reaches _ _ s .shr (.loc .mc)
  | .shrHd => operate_reaches _ _ s .shr (.loc .hd)
  | .shrN n => operate_reaches _ _ s .shr (.imm n)
  | .eqA => compare_reaches _ s ⟨.eq, (.loc .a), rfl⟩ .eq (.loc .a)
  | .eqB => compare_reaches _ s ⟨.eq, (.loc .b), rfl⟩ .eq (.loc .b)
  | .eqC => compare_reaches _ s ⟨.eq, (.loc .c), rfl⟩ .eq (.loc .c)
  | .eqD => compare_reaches _ s ⟨.eq, (.loc .d), rfl⟩ .eq (.loc .d)
  | .eqMb => compare_reaches _ s ⟨.eq, (.loc .mb), rfl⟩ .eq (.loc .mb)
  | .eqMc => compare_reaches _ s ⟨.eq, (.loc .mc), rfl⟩ .eq (.loc .mc)
  | .eqHd => compare_reaches _ s ⟨.eq, (.loc .hd), rfl⟩ .eq (.loc .hd)
  | .eqN n => compare_reaches _ s ⟨.eq, (.imm n), rfl⟩ .eq (.imm n)
  | .ltA => compare_reaches _ s ⟨.lt, (.loc .a), rfl⟩ .lt (.loc .a)
  | .ltB => compare_reaches _ s ⟨.lt, (.loc .b), rfl⟩ .lt (.loc .b)
  | .ltC => compare_reaches _ s ⟨.lt, (.loc .c), rfl⟩ .lt (.loc .c)
  | .ltD => compare_reaches _ s ⟨.lt, (.loc .d), rfl⟩ .lt (.loc .d)
  | .ltMb => compare_reaches _ s ⟨.lt, (.loc .mb), rfl⟩ .lt (.loc .mb)
  | .ltMc => compare_reaches _ s ⟨.lt, (.loc .mc), rfl⟩ .lt (.loc .mc)
  | .ltHd => compare_reaches _ s ⟨.lt, (.loc .hd), rfl⟩ .lt (.loc .hd)
  | .ltN n => compare_reaches _ s ⟨.lt, (.imm n), rfl⟩ .lt (.imm n)
  | .gtA => compare_reaches _ s ⟨.gt, (.loc .a), rfl⟩ .gt (.loc .a)
  | .gtB => compare_reaches _ s ⟨.gt, (.loc .b), rfl⟩ .gt (.loc .b)
  | .gtC => compare_reaches _ s ⟨.gt, (.loc .c), rfl⟩ .gt (.loc .c)
  | .gtD => compare_reaches _ s ⟨.gt, (.loc .d), rfl⟩ .gt (.loc .d)
  | .gtMb => compare_reaches _ s ⟨.gt, (.loc .mb), rfl⟩ .gt (.loc .mb)
  | .gtMc => compare_reaches _ s ⟨.gt, (.loc .mc), rfl⟩ .gt (.loc .mc)
  | .gtHd => compare_reaches _ s ⟨.gt, (.loc .hd), rfl⟩ .gt (.loc .hd)
  | .gtN n => compare_reaches _ s ⟨.gt, (.imm n), rfl⟩ .gt (.imm n)
  | .undef240 => undefinedOpcode_reaches _ _ s 240
  | .undef241 => undefinedOpcode_reaches _ _ s 241
  | .undef242 => undefinedOpcode_reaches _ _ s 242
  | .undef243 => undefinedOpcode_reaches _ _ s 243
  | .undef244 => undefinedOpcode_reaches _ _ s 244
  | .undef245 => undefinedOpcode_reaches _ _ s 245
  | .undef246 => undefinedOpcode_reaches _ _ s 246
  | .undef247 => undefinedOpcode_reaches _ _ s 247
  | .undef248 => undefinedOpcode_reaches _ _ s 248
  | .undef249 => undefinedOpcode_reaches _ _ s 249
  | .undef250 => undefinedOpcode_reaches _ _ s 250
  | .undef251 => undefinedOpcode_reaches _ _ s 251
  | .undef252 => undefinedOpcode_reaches _ _ s 252
  | .undef253 => undefinedOpcode_reaches _ _ s 253
  | .undef254 => undefinedOpcode_reaches _ _ s 254
  | .lj nl nh => longJump_reaches _ _ s nl nh

end Sys2Proof.Machine
end

