-- ==== Sys2Proof/Laws/Fetch.lean ====
section
/-! SUPPORT. What a fetch reads, and which part of the machine a step is. -/

namespace Sys2Proof.Machine

/-- The window of fetched bytes starts with `bs` when the program holds `bs` there and `bs` is no longer than the window. -/
theorem Zpaql.fetchFrom_append (z : Zpaql) (count k : Nat) (bs : List Byte) (hn : bs.length ≤ count)
    (h : ∀ j, j < bs.length → z.hbegin ≤ k + j ∧ k + j < z.hend ∧ bs[j]? = some (z.readP (k + j))) :
    z.fetchFrom count k = bs ++ z.fetchFrom (count - bs.length) (k + bs.length) := by
  induction bs generalizing count k with
  | nil => rfl
  | cons b bs ih =>
    obtain ⟨m, rfl⟩ : ∃ m, count = m + 1 := ⟨count - 1, by simp at hn; omega⟩
    have h0 := h 0 (by simp)
    have hr := ih m (k + 1) (by simpa using hn) fun j hj => by
      simpa [Nat.add_assoc, Nat.add_comm 1 j] using h (j + 1) (by simpa using hj)
    have hb : b = z.readP k := by simpa using h0.2.2
    have hin : z.inProgram k = true := by simpa [Zpaql.inProgram] using ⟨h0.1, h0.2.1⟩
    simp only [Zpaql.fetchFrom, hin, if_true, hr, hb, List.cons_append, List.length_cons, Nat.add_sub_add_right]
    rw [show k + 1 + bs.length = k + (bs.length + 1) by omega]

/-- Nothing is fetched outside the program. -/
theorem Zpaql.fetchFrom_outside (z : Zpaql) (count k : Nat) (h : k < z.hbegin ∨ z.hend ≤ k) :
    z.fetchFrom count k = [] := by
  cases count with
  | zero => rfl
  | succ m =>
    have : z.inProgram k = false := by
      simp only [Zpaql.inProgram, Bool.and_eq_false_iff, decide_eq_false_iff_not]; omega
    simp [Zpaql.fetchFrom, this]

/-! ### The parts of a step -/

theorem step_faulted {s : State} {f : CoreFault} (h : s.fault = some f) : step s = stuck f s := by simp [step, h]

theorem step_run {s : State} {next : Task} (h : s.fault = none) (hp : s.phase = .run next) : step s = execute s := by
  simp [step, h, advance, hp]

theorem step_halted {s : State} {next : Task} (h : s.fault = none) (hp : s.phase = .halted next) :
    step s = .next (s.returnRun next) := by simp [step, h, advance, hp]

theorem step_work {s : State} {t : Task} (h : s.fault = none) (hp : s.phase = .work t) :
    step s = .next (s.work t) := by simp [step, h, advance, hp]

theorem step_idle {s : State} (h : s.fault = none) (hp : s.phase = .idle) :
    step s = .next (s.takeRequest.getD s) := by simp [step, h, advance, hp]

/-- What leads to a next state: an instruction, a failed fetch, the return from a `run`, a part of another operation, a
request, or nothing at all. -/
theorem step_next_cases {s t : State} (h : step s = .next t) :
    (∃ next i, s.fault = none ∧ s.phase = .run next ∧ exec i s = .next t) ∨
      (∃ next e, s.fault = none ∧ s.phase = .run next ∧ t = s.raiseFetch e) ∨
      (∃ next, s.fault = none ∧ s.phase = .halted next ∧ t = s.returnRun next) ∨
      (∃ task, s.fault = none ∧ s.phase = .work task ∧ t = s.work task) ∨
      (∃ q rest, s.requests = q :: rest ∧ (s.fault = none → s.phase = .idle) ∧
        t = { s with requests := rest }.serve q) ∨
      (s.fault = none ∧ t = s) := by
  have hreq : ∀ u, s.takeRequest = some u → ∃ q rest, s.requests = q :: rest ∧
      u = { s with requests := rest }.serve q := by
    intro u hu
    unfold State.takeRequest at hu
    split at hu
    · cases hu
    · next q rest hq => exact ⟨q, rest, hq, (Option.some.inj hu).symm⟩
  unfold step at h
  split at h
  · next f hf =>
    unfold stuck at h
    split at h
    · next u hu =>
      obtain ⟨q, rest, hq, rfl⟩ := hreq u hu
      cases h
      exact .inr (.inr (.inr (.inr (.inl ⟨q, rest, hq, by simp [hf], rfl⟩))))
    · cases h
  · next hf =>
    unfold advance at h
    split at h
    · next next hp =>
      unfold execute at h
      split at h
      · next i _ => exact .inl ⟨next, i, hf, hp, h⟩
      · next e _ => cases h; exact .inr (.inl ⟨next, e, hf, hp, rfl⟩)
    · next next hp => cases h; exact .inr (.inr (.inl ⟨next, hf, hp, rfl⟩))
    · next task hp => cases h; exact .inr (.inr (.inr (.inl ⟨task, hf, hp, rfl⟩)))
    · next hp =>
      cases hr : s.takeRequest with
      | none => rw [hr] at h; cases h; exact .inr (.inr (.inr (.inr (.inr ⟨hf, rfl⟩))))
      | some u =>
        rw [hr] at h
        obtain ⟨q, rest, hq, rfl⟩ := hreq u hr
        cases h
        exact .inr (.inr (.inr (.inr (.inl ⟨q, rest, hq, fun _ => hp, rfl⟩))))

end Sys2Proof.Machine
end

