-- ==== Sys2Proof/Laws/Predictor.lean ====
section
/-! SUPPORT. The tables of the predictor: reads after writes, the canonical form, and what `predict`, `update` and `find`
keep. -/

namespace Sys2Proof.Machine

/-! ### Tables -/

theorem Component.memoryForm_init (d : CompDesc) : (Component.init d).MemoryForm :=
  ⟨memWf_nil .., memWf_nil .., memWf_nil ..⟩

theorem Component.memoryForm_writeCm {k : Component} (h : k.MemoryForm) (hl : 0 < cmLength k.desc) (j : Nat) (v : Word) :
    (k.writeCm j v).MemoryForm := ⟨memWf_poke h.1 (Nat.mod_lt _ hl) v, h.2⟩

theorem Component.memoryForm_writeHt {k : Component} (h : k.MemoryForm) (hl : 0 < htLength k.desc) (j : Nat) (v : Byte) :
    (k.writeHt j v).MemoryForm := ⟨h.1, memWf_poke h.2.1 (Nat.mod_lt _ hl) v, h.2.2⟩

theorem Component.memoryForm_writeA16 {k : Component} (h : k.MemoryForm) (hl : 0 < a16Length k.desc) (j : Nat)
    (v : BitVec 16) : (k.writeA16 j v).MemoryForm := ⟨h.1, h.2.1, memWf_poke h.2.2 (Nat.mod_lt _ hl) v⟩

@[simp] theorem Component.desc_writeCm (k : Component) (j : Nat) (v : Word) : (k.writeCm j v).desc = k.desc := rfl
@[simp] theorem Component.desc_writeHt (k : Component) (j : Nat) (v : Byte) : (k.writeHt j v).desc = k.desc := rfl
@[simp] theorem Component.desc_writeA16 (k : Component) (j : Nat) (v : BitVec 16) : (k.writeA16 j v).desc = k.desc := rfl

theorem Component.readCm_writeCm (k : Component) (j : Nat) (v : Word) (i : Nat) :
    (k.writeCm j v).readCm i = if i % cmLength k.desc = j % cmLength k.desc then v else k.readCm i := by
  by_cases h : i % cmLength k.desc = j % cmLength k.desc
  · simp [Component.readCm, Component.writeCm, h]
  · simp [Component.readCm, Component.writeCm, h, peek_poke_other _ _ _ _ h]

/-! ### The selected index -/

/-- What is selected is the index, whatever its size. -/
@[simp] theorem Component.selected_select (k : Component) (v : Nat) : (k.select v).selected = v := by
  simp only [Component.selected, Component.select, BitVec.toNat_ofNat]
  exact Nat.div_add_mod v (2 ^ 32)

/-- `cxt` holds an index of 32 bits by itself (R33). -/
theorem Component.toNat_cxt_select (k : Component) {v : Nat} (h : v < 2 ^ 32) : (k.select v).cxt.toNat = v := by
  simp only [Component.select, BitVec.toNat_ofNat, Nat.mod_eq_of_lt h]

@[simp] theorem Component.readCm_select (k : Component) (v j : Nat) : (k.select v).readCm j = k.readCm j := rfl
@[simp] theorem Component.readA16_select (k : Component) (v j : Nat) : (k.select v).readA16 j = k.readA16 j := rfl
@[simp] theorem Component.weight_select (k : Component) (v j : Nat) : (k.select v).weight j = k.weight j := rfl
@[simp] theorem Component.selected_writeCm (k : Component) (j : Nat) (v : Word) : (k.writeCm j v).selected = k.selected := rfl
@[simp] theorem Component.selected_writeA16 (k : Component) (j : Nat) (v : BitVec 16) :
    (k.writeA16 j v).selected = k.selected := rfl

/-! ### `find` -/

/-- A multiple of 16 below `2^(b+4)`, or the result of `xor 16` or `xor 32` on it, is one again when `b` is at least 2. -/
theorem row_xor {b x : Nat} (hb : 2 ≤ b) (hx : x < 2 ^ b) {m : Nat} (hm : m ≤ 3) :
    ∃ y, (16 * x) ^^^ (16 * m) = 16 * y ∧ y < 2 ^ b := by
  refine ⟨x ^^^ m, ?_, Nat.xor_lt_two_pow hx (Nat.lt_of_lt_of_le (by omega : m < 2 ^ 2) (Nat.pow_le_pow_right (by omega) hb))⟩
  have := Nat.shiftLeft_xor_distrib (a := x) (b := m) (i := 4)
  simpa [Nat.shiftLeft_eq, Nat.mul_comm] using this.symm

/-- The three rows probed are rows of the table. -/
theorem probed_row {b cxt h : Nat} (hb : 2 ≤ b)
    (hh : h = findHome b cxt ∨ h = findHome b cxt ^^^ 16 ∨ h = findHome b cxt ^^^ 32) :
    ∃ y, h = 16 * y ∧ y < 2 ^ b := by
  have hx : cxt % 2 ^ b < 2 ^ b := Nat.mod_lt _ (Nat.two_pow_pos _)
  rcases hh with rfl | rfl | rfl
  · exact ⟨_, rfl, hx⟩
  · exact row_xor hb hx (m := 1) (by omega)
  · exact row_xor hb hx (m := 2) (by omega)

/-- The row `find` evicts: h0 wins ties, h1 beats h2 only when strictly lower; no row probed has a lower priority. -/
theorem findVictim_cases (ht : List Host.Cell) (h0 h1 h2 : Nat) :
    let pri := fun h => (peek 0#8 ht (h + 1)).toNat
    (findVictim ht h0 h1 h2 = h0 ∧ pri h0 ≤ pri h1 ∧ pri h0 ≤ pri h2) ∨
      (findVictim ht h0 h1 h2 = h1 ∧ pri h1 < pri h0 ∧ pri h1 < pri h2) ∨
      (findVictim ht h0 h1 h2 = h2 ∧ pri h2 ≤ pri h1 ∧ pri h2 < pri h0) := by
  unfold findVictim
  dsimp only
  split
  · next h => exact .inl ⟨rfl, h⟩
  · next h =>
    split
    · next h' => exact .inr (.inl ⟨rfl, by omega, h'⟩)
    · next h' => exact .inr (.inr ⟨rfl, by omega, by omega⟩)

theorem findVictim_mem (ht : List Host.Cell) (h0 h1 h2 : Nat) :
    findVictim ht h0 h1 h2 = h0 ∨ findVictim ht h0 h1 h2 = h1 ∨ findVictim ht h0 h1 h2 = h2 := by
  rcases findVictim_cases ht h0 h1 h2 with h | h | h
  · exact .inl h.1
  · exact .inr (.inl h.1)
  · exact .inr (.inr h.1)

/-- Everything `find` can do: hit the first of the three rows, in their order, that holds the check byte and leave the table,
or evict the victim. -/
theorem findRow_cases (ht : List Host.Cell) (b cxt : Nat) :
    let chk := findCheck b cxt
    let h0 := findHome b cxt
    let h1 := h0 ^^^ 16
    let h2 := h0 ^^^ 32
    (peek 0#8 ht h0 = chk ∧ findRow ht b cxt = (h0, ht)) ∨
    (peek 0#8 ht h0 ≠ chk ∧ peek 0#8 ht h1 = chk ∧ findRow ht b cxt = (h1, ht)) ∨
    (peek 0#8 ht h0 ≠ chk ∧ peek 0#8 ht h1 ≠ chk ∧ peek 0#8 ht h2 = chk ∧ findRow ht b cxt = (h2, ht)) ∨
    (peek 0#8 ht h0 ≠ chk ∧ peek 0#8 ht h1 ≠ chk ∧ peek 0#8 ht h2 ≠ chk ∧
      findRow ht b cxt =
        (findVictim ht h0 h1 h2, pokeBytes ht (findVictim ht h0 h1 h2) (chk :: List.replicate 15 0#8))) := by
  unfold findRow
  dsimp only
  split
  · next h => exact .inl ⟨h, rfl⟩
  · next n0 =>
    split
    · next h => exact .inr (.inl ⟨n0, h, rfl⟩)
    · next n1 =>
      split
      · next h => exact .inr (.inr (.inl ⟨n0, n1, h, rfl⟩))
      · next n2 => exact .inr (.inr (.inr ⟨n0, n1, n2, rfl⟩))

/-- `find` keeps the canonical form of a table of `2^b` rows. -/
theorem memWf_findRow {ht : List Host.Cell} {b cxt : Nat} (hb : 2 ≤ b) (h : MemWf (fun _ => 0#8) (16 * 2 ^ b) ht) :
    MemWf (fun _ => 0#8) (16 * 2 ^ b) (findRow ht b cxt).2 := by
  rcases findRow_cases ht b cxt with ⟨-, e⟩ | ⟨-, -, e⟩ | ⟨-, -, -, e⟩ | ⟨-, -, -, e⟩ <;> rw [e]
  iterate 3 exact h
  obtain ⟨y, hy, hlt⟩ := probed_row hb (findVictim_mem ht (findHome b cxt) (findHome b cxt ^^^ 16) (findHome b cxt ^^^ 32))
  generalize hbs : findCheck b cxt :: List.replicate 15 0#8 = bs
  have hl : bs.length = 16 := by rw [← hbs]; simp
  exact memWf_pokeBytes h bs _ (by omega)

/-! ### `predict` of a component -/

/-- `lookup` changes `c` and `ht` alone. -/
theorem Component.lookup_frame (s : Byte) (x : CompInput) (k : Component) :
    ∃ c ht, k.lookup s x = { k with c := c, ht := ht } := by
  unfold Component.lookup
  split
  · exact ⟨_, _, rfl⟩
  · exact ⟨k.c, k.ht, rfl⟩

/-- `predict` changes `cxt` with its top part, `c` and `ht` alone (R429). -/
theorem predictOne_frame (x : CompInput) (k : Component) :
    ∃ cxt top c ht, (predictOne x k).1 = { k with cxt := cxt, cxtTop := top, c := c, ht := ht } := by
  obtain ⟨d, cxt, top, a, b, c, limit, cm, ht, a16⟩ := k
  cases d with
  | icm s =>
    obtain ⟨c', ht', h⟩ := Component.lookup_frame s x ⟨.icm s, cxt, top, a, b, c, limit, cm, ht, a16⟩
    exact ⟨_, top, c', ht', by simp only [predictOne, predictIcm, h]; rfl⟩
  | isse s j =>
    obtain ⟨c', ht', h⟩ := Component.lookup_frame s x ⟨.isse s j, cxt, top, a, b, c, limit, cm, ht, a16⟩
    exact ⟨_, top, c', ht', by simp only [predictOne, predictIsse, h]; rfl⟩
  | matchModel s bufbits =>
    by_cases ha : a = 0
    · exact ⟨cxt, top, c, ht, by simp [predictOne, predictMatch, ha]⟩
    · exact ⟨cxt, top, _, ht, by simp only [predictOne, predictMatch, ha, if_false]; rfl⟩
  | const c0 => exact ⟨cxt, top, c, ht, rfl⟩
  | avg j l wt => exact ⟨cxt, top, c, ht, rfl⟩
  | cm s l => exact ⟨_, _, c, ht, rfl⟩
  | mix2 s j l r m => exact ⟨_, _, c, ht, rfl⟩
  | mix s j m r mask => exact ⟨_, _, c, ht, rfl⟩
  | sse s j st l => exact ⟨_, top, c, ht, rfl⟩

theorem Component.memoryForm_lookup {k : Component} (h : k.MemoryForm) {s : Byte}
    (hs : htLength k.desc = 64 * 2 ^ s.toNat) (x : CompInput) : (k.lookup s x).MemoryForm := by
  unfold Component.lookup
  split
  · have hl : htLength k.desc = 16 * 2 ^ (s.toNat + 2) := by rw [hs, Nat.pow_add]; omega
    refine ⟨h.1, ?_, h.2.2⟩
    show MemWf _ (htLength k.desc) _
    rw [hl]
    exact memWf_findRow (by omega) (hl ▸ h.2.1)
  · exact h

theorem memoryForm_predictOne {k : Component} (h : k.MemoryForm) (x : CompInput) : (predictOne x k).1.MemoryForm := by
  unfold predictOne
  cases hd : k.desc with
  | icm s => exact Component.memoryForm_lookup h (by simp [hd, htLength]) x
  | isse s j => exact Component.memoryForm_lookup h (by simp [hd, htLength]) x
  | matchModel s b =>
    by_cases ha : k.a = 0
    · simpa [predictMatch, ha] using h
    · simp only [predictMatch, ha, if_false]; exact h
  | _ => exact h

/-! ### `update` of a component -/

theorem mixTrain_desc (j : Byte) (x : CompInput) (err : Int) (t : Nat) (k : Component) :
    (mixTrain j x err t k).desc = k.desc := by
  induction t with
  | zero => rfl
  | succ t ih => simp [mixTrain, ih]

theorem memoryForm_mixTrain (j : Byte) (x : CompInput) (err : Int) (t : Nat) {k : Component} (h : k.MemoryForm)
    (hl : 0 < cmLength k.desc) : (mixTrain j x err t k).MemoryForm := by
  induction t with
  | zero => exact h
  | succ t ih => exact Component.memoryForm_writeCm ih (by rw [mixTrain_desc]; exact hl) _ _

theorem matchByte_desc (s b : Byte) (x : CompInput) (k : Component) : (matchByte s b x k).desc = k.desc := by
  unfold matchByte
  dsimp only
  rw [Component.desc_writeCm]
  split_ifs <;> rfl

theorem updateMatch_desc (s b : Byte) (x : CompInput) (y : Bool) (k : Component) :
    (updateMatch s b x y k).desc = k.desc := by
  unfold updateMatch
  dsimp only
  split_ifs <;> first | exact matchByte_desc .. | rfl

/-- `update` keeps the descriptor. -/
theorem updateOne_desc (x : CompInput) (pi : Int) (y : Bool) (k : Component) : (updateOne x pi y k).desc = k.desc := by
  unfold updateOne
  split <;> first
    | exact mixTrain_desc ..
    | exact updateMatch_desc ..
    | simp only [Component.train, updateIcm, updateMix2, updateIsse, Component.desc_writeCm, Component.desc_writeHt,
        Component.desc_writeA16]

theorem memoryForm_updateOne {k : Component} (h : k.MemoryForm) (x : CompInput) (pi : Int) (y : Bool) :
    (updateOne x pi y k).MemoryForm := by
  unfold updateOne
  cases hd : k.desc with
  | const c => exact h
  | avg j l wt => exact h
  | cm s l => exact Component.memoryForm_writeCm h (by simp [hd, cmLength]) _ _
  | sse s j st l => exact Component.memoryForm_writeCm h (by simp [hd, cmLength]) _ _
  | icm s =>
    exact Component.memoryForm_writeCm (Component.memoryForm_writeHt h (by simp [hd, htLength]) _ _)
      (by simp [hd, cmLength]) _ _
  | mix2 s j l r m => exact Component.memoryForm_writeA16 h (by simp [hd, a16Length]) _ _
  | mix s j m r mask =>
    by_cases hm : m.toNat = 0
    · simpa [updateMix, hm, mixTrain] using h
    · exact memoryForm_mixTrain _ _ _ _ h (by simp only [hd, cmLength]; exact Nat.mul_pos (by omega) (Nat.two_pow_pos _))
  | isse s j =>
    exact Component.memoryForm_writeHt (Component.memoryForm_writeCm (Component.memoryForm_writeCm h
      (by simp [hd, cmLength]) _ _) (by simp [hd, cmLength]) _ _) (by simp [hd, htLength]) _ _
  | matchModel s b =>
    have hc : 0 < cmLength k.desc := by simp [hd, cmLength]
    have hh : 0 < htLength k.desc := by simp [hd, htLength]
    have byte : ∀ k' : Component, k'.MemoryForm → k'.desc = k.desc → (matchByte s b x k').MemoryForm := by
      intro k' h' hd'
      unfold matchByte
      dsimp only
      refine Component.memoryForm_writeCm ?_ ?_ _ _
      · split_ifs <;> exact h'
      · split_ifs <;> (show 0 < cmLength k'.desc; rw [hd']; exact hc)
    unfold updateMatch
    dsimp only
    have h0 : ∀ k' : Component, k'.MemoryForm → k'.desc = k.desc → ∀ v,
        (k'.writeHt k'.limit v).MemoryForm := fun k' h' hd' v =>
      Component.memoryForm_writeHt h' (by rw [hd']; exact hh) _ _
    split
    · split
      · exact byte _ (h0 _ h rfl _) rfl
      · exact h0 _ h rfl _
    · split
      · exact byte _ (h0 _ h rfl _) rfl
      · exact h0 _ h rfl _

/-! ### The whole predictor -/

theorem predictFrom_length (h : List (Nat × Word)) (c8 hmap4 i : Nat) (ks : List Component) (p : List (Nat × Int)) :
    (predictFrom h c8 hmap4 i ks p).1.length = ks.length := by
  induction ks generalizing i p with
  | nil => rfl
  | cons k ks ih => simp [predictFrom, ih]

theorem updateFrom_length (q : Predictor) (y : Bool) (i : Nat) (ks : List Component) :
    (updateFrom q y i ks).length = ks.length := by
  induction ks generalizing i with
  | nil => rfl
  | cons k ks ih => simp [updateFrom, ih]

/-- Component `i` after `predict` is `predictOne` of it, for some `p[]` seen. -/
theorem predictFrom_mem {h : List (Nat × Word)} {c8 hmap4 i : Nat} {ks : List Component} {p : List (Nat × Int)}
    {k' : Component} (hk : k' ∈ (predictFrom h c8 hmap4 i ks p).1) : ∃ x, ∃ k ∈ ks, k' = (predictOne x k).1 := by
  induction ks generalizing i p with
  | nil => simp [predictFrom] at hk
  | cons k ks ih =>
    rcases List.mem_cons.mp hk with rfl | hk
    · exact ⟨_, k, by simp, rfl⟩
    · obtain ⟨x, k0, h0, rfl⟩ := ih hk
      exact ⟨x, k0, by simp [h0], rfl⟩

theorem updateFrom_mem {q : Predictor} {y : Bool} {i : Nat} {ks : List Component} {k' : Component}
    (hk : k' ∈ updateFrom q y i ks) : ∃ x pi, ∃ k ∈ ks, k' = updateOne x pi y k := by
  induction ks generalizing i with
  | nil => simp [updateFrom] at hk
  | cons k ks ih =>
    rcases List.mem_cons.mp hk with rfl | hk
    · exact ⟨_, _, k, by simp, rfl⟩
    · obtain ⟨x, pi, k0, h0, rfl⟩ := ih hk
      exact ⟨x, pi, k0, by simp [h0], rfl⟩

/-- The `p[]` that `predict` leaves keeps its canonical form. -/
theorem memWf_predictFrom {h : List (Nat × Word)} {c8 hmap4 i : Nat} {ks : List Component} {p : List (Nat × Int)}
    (hp : MemWf (fun _ => (0 : Int)) 256 p) (hi : i + ks.length ≤ 256) :
    MemWf (fun _ => (0 : Int)) 256 (predictFrom h c8 hmap4 i ks p).2 := by
  induction ks generalizing i p with
  | nil => exact hp
  | cons k ks ih =>
    simp only [List.length_cons] at hi
    refine ih ?_ (by omega)
    unfold setP
    split
    · exact hp
    · exact memWf_poke hp (by omega) _

theorem memWf_reloadFrom (z : Zpaql) {i count : Nat} {h : List (Nat × Word)} (hh : MemWf (fun _ => 0#32) 256 h)
    (hi : i + count ≤ 256) : MemWf (fun _ => 0#32) 256 (reloadFrom z i count h) := by
  induction count generalizing i h with
  | zero => exact hh
  | succ n ih => exact ih (memWf_poke hh (by omega) _) (by omega)

theorem peek_reloadFrom (z : Zpaql) (i count : Nat) (h : List (Nat × Word)) (j : Nat) :
    peek 0#32 (reloadFrom z i count h) j =
      if i ≤ j ∧ j < i + count then z.readH (j % z.hsize) else peek 0#32 h j := by
  induction count generalizing i h with
  | zero => simp only [reloadFrom]; rw [if_neg (by omega)]
  | succ n ih =>
    rw [reloadFrom, ih, show poke 0 h i (z.readH (i % z.hsize)) = poke 0#32 h i (z.readH (i % z.hsize)) from rfl, peek_poke]
    by_cases hj : j = i
    · subst hj; rw [if_neg (by omega), if_pos rfl, if_pos (by omega)]
    · rw [if_neg hj]
      by_cases h2 : i + 1 ≤ j ∧ j < i + 1 + n
      · rw [if_pos h2, if_pos (by omega)]
      · rw [if_neg h2, if_neg (by omega)]

theorem Predictor.memoryForm_predict {q : Predictor} (h : q.MemoryForm) : q.predict.MemoryForm := by
  obtain ⟨hh, hp, hl, hk⟩ := h
  refine ⟨hh, memWf_predictFrom hp (by omega), ?_, fun k' hk' => ?_⟩
  · exact (predictFrom_length ..).trans_le hl
  · obtain ⟨x, k, h0, rfl⟩ := predictFrom_mem hk'
    exact memoryForm_predictOne (hk k h0) x

theorem Predictor.memoryForm_train {q : Predictor} (h : q.MemoryForm) (y : Bool) : (q.train y).MemoryForm := by
  obtain ⟨hh, hp, hl, hk⟩ := h
  refine ⟨hh, hp, (updateFrom_length ..).trans_le hl, fun k' hk' => ?_⟩
  obtain ⟨x, pi, k, h0, rfl⟩ := updateFrom_mem hk'
  exact memoryForm_updateOne (hk k h0) x pi y

theorem Predictor.memoryForm_advance {q : Predictor} (h : q.MemoryForm) (y : Bool) : (q.advance y).MemoryForm := h

theorem Predictor.memoryForm_nextByte {q : Predictor} (h : q.MemoryForm) (z : Zpaql) : (q.nextByte z).MemoryForm := by
  obtain ⟨hh, hp, hl, hk⟩ := h
  exact ⟨memWf_reloadFrom z hh (by omega), hp, hl, hk⟩

end Sys2Proof.Machine
end

