-- ==== Sys2Proof/Laws/Load.lean ====
section
/-! SUPPORT. What a successful parse gives, how descriptors decode, and the states a `load` can leave. -/

namespace Sys2Proof.Machine

/-! ### Descriptors -/

theorem decodeDesc_encodeDesc (d : CompDesc) (rest : List Byte) : decodeDesc (encodeDesc d ++ rest) = .ok (d, rest) := by
  cases d <;> rfl

theorem decodeDescs_encode (ds : List CompDesc) (rest : List Byte) :
    decodeDescs ds.length (ds.flatMap encodeDesc ++ rest) = .ok (ds, rest) := by
  induction ds with
  | nil => rfl
  | cons d ds ih =>
    rw [List.length_cons, decodeDescs, List.flatMap_cons, List.append_assoc, decodeDesc_encodeDesc]
    simp only [ih]

/-- A descriptor that decodes is the encoding of what it decodes to. -/
theorem decodeDesc_ok {bytes : List Byte} {d : CompDesc} {rest : List Byte} (h : decodeDesc bytes = .ok (d, rest)) :
    bytes = encodeDesc d ++ rest := by
  have tag : ∀ {t : Byte} {n : Nat}, t.toNat = n → t = BitVec.ofNat 8 n := by
    rintro t _ rfl; simp
  unfold decodeDesc at h
  split at h
  · cases h
  · split at h <;> first
      | (next he => cases h; rw [tag he]; rfl)
      | (split at h <;> cases h)

/-- `decodeDescs n` answers `n` descriptors, whose encodings stood at the front. -/
theorem decodeDescs_ok {n : Nat} {bytes : List Byte} {ds : List CompDesc} {rest : List Byte}
    (h : decodeDescs n bytes = .ok (ds, rest)) : ds.length = n ∧ bytes = ds.flatMap encodeDesc ++ rest := by
  induction n generalizing bytes ds rest with
  | zero => cases h; exact ⟨rfl, rfl⟩
  | succ n ih =>
    unfold decodeDescs at h
    split at h
    · cases h
    · next d r hd =>
      split at h
      · cases h
      · next ds' r' hds =>
        cases h
        obtain ⟨h1, h2⟩ := ih hds
        exact ⟨by simp [h1], by rw [decodeDesc_ok hd, h2, List.flatMap_cons, List.append_assoc]⟩

/-! ### The parse and the checks -/

/-- What a successful parse gives: as many descriptors as `n` says, a COMP section of at least eight bytes, an HCOMP
section that ends in a zero byte, and the two together are the header's bytes. -/
theorem parseHeader_ok {supplied : List Byte} {x : ParsedHeader} (h : parseHeader supplied = .ok x) :
    x.descs.length = x.header.n.toNat ∧ 8 ≤ x.comp.length ∧ x.hcomp.getLast? = some 0 ∧
      x.comp ++ x.hcomp = supplied.take (x.header.hsize.toNat + 2) := by
  unfold parseHeader at h
  split at h
  · next lo hi tl =>
    dsimp only at h
    split at h
    · next b0 b1 hh hm ph pm n rest hb =>
      unfold parseComp at h
      split at h
      · cases h
      · cases h
      · cases h
      · next ds t code hd =>
        split at h
        · unfold parseHcomp at h
          dsimp only at h
          split_ifs at h with h1 h2 h3
          cases h
          obtain ⟨hl, hr⟩ := decodeDescs_ok hd
          have hle : (BitVec.ofNat 16 (le16 lo hi)).toNat = le16 lo hi := by
            have := lo.isLt; have := hi.isLt; simp only [le16, BitVec.toNat_ofNat]; omega
          have hbytes : (lo :: hi :: tl).take (le16 lo hi + 2) =
              (b0 :: b1 :: hh :: hm :: ph :: pm :: n :: ds.flatMap encodeDesc ++ [t]) ++ code := by
            rw [hb, hr]; simp
          refine ⟨hl, ?_, not_not.mp h3, ?_⟩
          · rw [hbytes, List.length_append, Nat.add_sub_cancel, List.take_left]
            simp
          · show _ ++ code = _
            rw [hle, hbytes, List.length_append, Nat.add_sub_cancel, List.take_left]
        · cases h
    · cases h
  · cases h

/-- `checkHeader` answers what parses and passes every check. -/
theorem checkHeader_ok {caps : Caps} {supplied : List Byte} {x : ParsedHeader} (h : checkHeader caps supplied = .ok x) :
    parseHeader supplied = .ok x ∧ checkModel caps x.header x.descs = none := by
  unfold checkHeader at h
  split at h
  · cases h
  · next y hy =>
    split at h
    · cases h
    · next hc => cases h; exact ⟨hy, hc⟩

/-- The two states a `load` leaves: the block's, or a faulted core with what was built before the fault. -/
theorem State.load_cases (s : State) (role : Role) (supplied : List Byte) :
    (∃ x, checkHeader s.caps supplied = .ok x ∧ s.load role supplied = s.install role x) ∨
      ∃ f, checkHeader s.caps supplied = .error f ∧
        s.load role supplied = (s.builtBeforeFault role supplied).raise f := by
  unfold State.load
  cases h : checkHeader s.caps supplied with
  | ok x => exact .inl ⟨x, rfl, rfl⟩
  | error f => exact .inr ⟨f, rfl, rfl⟩

/-- The components built before a fault are the first of the list. -/
theorem builtComponents_prefix (caps : Caps) (i : Nat) (ds : List CompDesc) : builtComponents caps i ds <+: ds := by
  induction ds generalizing i with
  | nil => exact List.nil_prefix
  | cons d ds ih =>
    unfold builtComponents
    split
    · exact List.nil_prefix
    · exact (List.prefix_cons_inj d).mpr (ih (i + 1))

/-- When every check passes, every component is built. -/
theorem builtComponents_eq {caps : Caps} {i : Nat} {ds : List CompDesc} (h : checkComponents caps i ds = none) :
    builtComponents caps i ds = ds := by
  induction ds generalizing i with
  | nil => rfl
  | cons d ds ih =>
    cases hd : checkComponent caps i d with
    | some f => simp [checkComponents, hd] at h
    | none => simp only [checkComponents, hd] at h; simp only [builtComponents, hd, ih h]

/-- What a failing `load` has built: a program store over what has been parsed, and of the predictor the first components
or none; the rest is a discarded core's. -/
theorem State.builtBeforeFault_cases (s : State) (role : Role) (supplied : List Byte) :
    (∃ e, parseHeader supplied = .error e ∧ s.builtBeforeFault role supplied =
      { s.discard role with hcomp := .ofParseFault e, header := .ofBytes e.comp }) ∨
    (∃ x f, parseHeader supplied = .ok x ∧ checkSizes s.caps x.header = some f ∧ s.builtBeforeFault role supplied =
      { s.discard role with hcomp := .ofStore x, header := x.header }) ∨
    ∃ x, parseHeader supplied = .ok x ∧ checkSizes s.caps x.header = none ∧ s.builtBeforeFault role supplied =
      { s.discard role with
        hcomp := .ofHeader x, pred := .ofDescs (builtComponents s.caps 0 x.descs), header := x.header } := by
  unfold State.builtBeforeFault
  cases hp : parseHeader supplied with
  | error e => exact .inl ⟨e, rfl, rfl⟩
  | ok x =>
    cases hs : checkSizes s.caps x.header with
    | some f => exact .inr (.inl ⟨x, f, rfl, hs, by simp only [hs]⟩)
    | none => exact .inr (.inr ⟨x, rfl, hs, by simp only [hs]⟩)

/-- The store of a failing or of a successful `load` has its canonical form. -/
theorem pairwise_programStore (comp hcomp : List Byte) :
    (programStore comp hcomp).Pairwise (fun x y => x.1 < y.1) ∧ ∀ e ∈ programStore comp hcomp, e.2 ≠ 0#8 :=
  pairwise_pokeBytes (pairwise_pokeBytes ⟨.nil, nofun⟩ _ _) _ _

/-! ### The block's state -/

/-- `p[]` after load, as a read. -/
theorem pAt_constOutputs (i : Nat) (ds : List CompDesc) (p : List (Nat × Int)) (j : Nat) :
    pAt (constOutputs i ds p) j =
      if j < i then pAt p j
      else match ds[j - i]? with
        | some (.const c) => ((c.toNat : Int) - 128) * 4
        | _ => pAt p j := by
  induction ds generalizing i p with
  | nil => simp [constOutputs]
  | cons d ds ih =>
    have step : pAt (constOutputs i (d :: ds) p) j =
        pAt (constOutputs (i + 1) ds (match d with
          | .const c => poke 0 p i (((c.toNat : Int) - 128) * 4)
          | _ => p)) j := by cases d <;> rfl
    rw [step, ih]
    rcases Nat.lt_trichotomy j i with h | rfl | h
    · rw [if_pos (by omega), if_pos h]
      cases d <;> first | rfl | exact peek_poke_other _ _ _ _ (Nat.ne_of_lt h)
    · rw [if_pos (by omega), if_neg (by omega), Nat.sub_self]
      cases d <;> first | rfl | exact peek_poke_self ..
    · rw [if_neg (by omega), if_neg (by omega), show j - i = (j - (i + 1)) + 1 by omega, List.getElem?_cons_succ]
      cases d <;> first | rfl | (simp only [pAt, peek_poke_other (0 : Int) 0 p _ (Nat.ne_of_gt h)])

/-- `p[]` after load has its canonical form. -/
theorem memWf_constOutputs {i : Nat} {ds : List CompDesc} {p : List (Nat × Int)}
    (h : MemWf (fun _ => (0 : Int)) 256 p) (hi : i + ds.length ≤ 256) :
    MemWf (fun _ => (0 : Int)) 256 (constOutputs i ds p) := by
  induction ds generalizing i p with
  | nil => exact h
  | cons d ds ih =>
    simp only [List.length_cons] at hi
    cases d <;> first
      | exact ih (memWf_poke h (by omega) _) (by omega)
      | exact ih h (by omega)

/-- The predictor of a list of at most 255 descriptors has its canonical form. -/
theorem Predictor.memoryForm_ofDescs {ds : List CompDesc} (h : ds.length ≤ 255) : (Predictor.ofDescs ds).MemoryForm := by
  refine ⟨memWf_nil .., memWf_constOutputs (memWf_nil ..) (by omega), by simpa [Predictor.ofDescs] using h, fun k hk => ?_⟩
  obtain ⟨d, -, rfl⟩ := List.mem_map.mp (show k ∈ ds.map Component.init from hk)
  exact Component.memoryForm_init d

end Sys2Proof.Machine
end

