-- ==== Sys2Proof/Laws/PerInstr.lean ====
section
/-! SUPPORT. Families of statements made per instruction (LAWS.json). -/

namespace Sys2Proof

/-- How many bytes the machine fetches for an opcode: those of the instruction, one for an undefined opcode (R102, R186). -/
def fetchedLength (op : Byte) : Nat :=
  match opEntry op with
  | .op1 _ => 1
  | .op2 _ => 2
  | .op3 _ => 3

/-- The encoding of an instruction starts with its opcode byte and has as many bytes as the machine fetches for it. -/
def Laws.EncodedLength.Statement (i : Instr) : Prop :=
  ∃ op operands, encode i = op :: operands ∧ operands.length + 1 = fetchedLength op

namespace Laws.EncodedLength

theorem error : Statement .error := ⟨_, _, rfl, rfl⟩
theorem incA : Statement .incA := ⟨_, _, rfl, rfl⟩
theorem decA : Statement .decA := ⟨_, _, rfl, rfl⟩
theorem notA : Statement .notA := ⟨_, _, rfl, rfl⟩
theorem zeroA : Statement .zeroA := ⟨_, _, rfl, rfl⟩
theorem undef5 : Statement .undef5 := ⟨_, _, rfl, rfl⟩
theorem undef6 : Statement .undef6 := ⟨_, _, rfl, rfl⟩
theorem ldA (n : Byte) : Statement (.ldA n) := ⟨_, _, rfl, rfl⟩
theorem swapB : Statement .swapB := ⟨_, _, rfl, rfl⟩
theorem incB : Statement .incB := ⟨_, _, rfl, rfl⟩
theorem decB : Statement .decB := ⟨_, _, rfl, rfl⟩
theorem notB : Statement .notB := ⟨_, _, rfl, rfl⟩
theorem zeroB : Statement .zeroB := ⟨_, _, rfl, rfl⟩
theorem undef13 : Statement .undef13 := ⟨_, _, rfl, rfl⟩
theorem undef14 : Statement .undef14 := ⟨_, _, rfl, rfl⟩
theorem ldB (n : Byte) : Statement (.ldB n) := ⟨_, _, rfl, rfl⟩
theorem swapC : Statement .swapC := ⟨_, _, rfl, rfl⟩
theorem incC : Statement .incC := ⟨_, _, rfl, rfl⟩
theorem decC : Statement .decC := ⟨_, _, rfl, rfl⟩
theorem notC : Statement .notC := ⟨_, _, rfl, rfl⟩
theorem zeroC : Statement .zeroC := ⟨_, _, rfl, rfl⟩
theorem undef21 : Statement .undef21 := ⟨_, _, rfl, rfl⟩
theorem undef22 : Statement .undef22 := ⟨_, _, rfl, rfl⟩
theorem ldC (n : Byte) : Statement (.ldC n) := ⟨_, _, rfl, rfl⟩
theorem swapD : Statement .swapD := ⟨_, _, rfl, rfl⟩
theorem incD : Statement .incD := ⟨_, _, rfl, rfl⟩
theorem decD : Statement .decD := ⟨_, _, rfl, rfl⟩
theorem notD : Statement .notD := ⟨_, _, rfl, rfl⟩
theorem zeroD : Statement .zeroD := ⟨_, _, rfl, rfl⟩
theorem undef29 : Statement .undef29 := ⟨_, _, rfl, rfl⟩
theorem undef30 : Statement .undef30 := ⟨_, _, rfl, rfl⟩
theorem ldD (n : Byte) : Statement (.ldD n) := ⟨_, _, rfl, rfl⟩
theorem swapMb : Statement .swapMb := ⟨_, _, rfl, rfl⟩
theorem incMb : Statement .incMb := ⟨_, _, rfl, rfl⟩
theorem decMb : Statement .decMb := ⟨_, _, rfl, rfl⟩
theorem notMb : Statement .notMb := ⟨_, _, rfl, rfl⟩
theorem zeroMb : Statement .zeroMb := ⟨_, _, rfl, rfl⟩
theorem undef37 : Statement .undef37 := ⟨_, _, rfl, rfl⟩
theorem undef38 : Statement .undef38 := ⟨_, _, rfl, rfl⟩
theorem jt (n : Byte) : Statement (.jt n) := ⟨_, _, rfl, rfl⟩
theorem swapMc : Statement .swapMc := ⟨_, _, rfl, rfl⟩
theorem incMc : Statement .incMc := ⟨_, _, rfl, rfl⟩
theorem decMc : Statement .decMc := ⟨_, _, rfl, rfl⟩
theorem notMc : Statement .notMc := ⟨_, _, rfl, rfl⟩
theorem zeroMc : Statement .zeroMc := ⟨_, _, rfl, rfl⟩
theorem undef45 : Statement .undef45 := ⟨_, _, rfl, rfl⟩
theorem undef46 : Statement .undef46 := ⟨_, _, rfl, rfl⟩
theorem jf (n : Byte) : Statement (.jf n) := ⟨_, _, rfl, rfl⟩
theorem swapHd : Statement .swapHd := ⟨_, _, rfl, rfl⟩
theorem incHd : Statement .incHd := ⟨_, _, rfl, rfl⟩
theorem decHd : Statement .decHd := ⟨_, _, rfl, rfl⟩
theorem notHd : Statement .notHd := ⟨_, _, rfl, rfl⟩
theorem zeroHd : Statement .zeroHd := ⟨_, _, rfl, rfl⟩
theorem undef53 : Statement .undef53 := ⟨_, _, rfl, rfl⟩
theorem undef54 : Statement .undef54 := ⟨_, _, rfl, rfl⟩
theorem stA (n : Byte) : Statement (.stA n) := ⟨_, _, rfl, rfl⟩
theorem halt : Statement .halt := ⟨_, _, rfl, rfl⟩
theorem out : Statement .out := ⟨_, _, rfl, rfl⟩
theorem undef58 : Statement .undef58 := ⟨_, _, rfl, rfl⟩
theorem hash : Statement .hash := ⟨_, _, rfl, rfl⟩
theorem hashd : Statement .hashd := ⟨_, _, rfl, rfl⟩
theorem undef61 : Statement .undef61 := ⟨_, _, rfl, rfl⟩
theorem undef62 : Statement .undef62 := ⟨_, _, rfl, rfl⟩
theorem jmp (n : Byte) : Statement (.jmp n) := ⟨_, _, rfl, rfl⟩
theorem movAA : Statement .movAA := ⟨_, _, rfl, rfl⟩
theorem movAB : Statement .movAB := ⟨_, _, rfl, rfl⟩
theorem movAC : Statement .movAC := ⟨_, _, rfl, rfl⟩
theorem movAD : Statement .movAD := ⟨_, _, rfl, rfl⟩
theorem movAMb : Statement .movAMb := ⟨_, _, rfl, rfl⟩
theorem movAMc : Statement .movAMc := ⟨_, _, rfl, rfl⟩
theorem movAHd : Statement .movAHd := ⟨_, _, rfl, rfl⟩
theorem movAN (n : Byte) : Statement (.movAN n) := ⟨_, _, rfl, rfl⟩
theorem movBA : Statement .movBA := ⟨_, _, rfl, rfl⟩
theorem movBB : Statement .movBB := ⟨_, _, rfl, rfl⟩
theorem movBC : Statement .movBC := ⟨_, _, rfl, rfl⟩
theorem movBD : Statement .movBD := ⟨_, _, rfl, rfl⟩
theorem movBMb : Statement .movBMb := ⟨_, _, rfl, rfl⟩
theorem movBMc : Statement .movBMc := ⟨_, _, rfl, rfl⟩
theorem movBHd : Statement .movBHd := ⟨_, _, rfl, rfl⟩
theorem movBN (n : Byte) : Statement (.movBN n) := ⟨_, _, rfl, rfl⟩
theorem movCA : Statement .movCA := ⟨_, _, rfl, rfl⟩
theorem movCB : Statement .movCB := ⟨_, _, rfl, rfl⟩
theorem movCC : Statement .movCC := ⟨_, _, rfl, rfl⟩
theorem movCD : Statement .movCD := ⟨_, _, rfl, rfl⟩
theorem movCMb : Statement .movCMb := ⟨_, _, rfl, rfl⟩
theorem movCMc : Statement .movCMc := ⟨_, _, rfl, rfl⟩
theorem movCHd : Statement .movCHd := ⟨_, _, rfl, rfl⟩
theorem movCN (n : Byte) : Statement (.movCN n) := ⟨_, _, rfl, rfl⟩
theorem movDA : Statement .movDA := ⟨_, _, rfl, rfl⟩
theorem movDB : Statement .movDB := ⟨_, _, rfl, rfl⟩
theorem movDC : Statement .movDC := ⟨_, _, rfl, rfl⟩
theorem movDD : Statement .movDD := ⟨_, _, rfl, rfl⟩
theorem movDMb : Statement .movDMb := ⟨_, _, rfl, rfl⟩
theorem movDMc : Statement .movDMc := ⟨_, _, rfl, rfl⟩
theorem movDHd : Statement .movDHd := ⟨_, _, rfl, rfl⟩
theorem movDN (n : Byte) : Statement (.movDN n) := ⟨_, _, rfl, rfl⟩
theorem movMbA : Statement .movMbA := ⟨_, _, rfl, rfl⟩
theorem movMbB : Statement .movMbB := ⟨_, _, rfl, rfl⟩
theorem movMbC : Statement .movMbC := ⟨_, _, rfl, rfl⟩
theorem movMbD : Statement .movMbD := ⟨_, _, rfl, rfl⟩
theorem movMbMb : Statement .movMbMb := ⟨_, _, rfl, rfl⟩
theorem movMbMc : Statement .movMbMc := ⟨_, _, rfl, rfl⟩
theorem movMbHd : Statement .movMbHd := ⟨_, _, rfl, rfl⟩
theorem movMbN (n : Byte) : Statement (.movMbN n) := ⟨_, _, rfl, rfl⟩
theorem movMcA : Statement .movMcA := ⟨_, _, rfl, rfl⟩
theorem movMcB : Statement .movMcB := ⟨_, _, rfl, rfl⟩
theorem movMcC : Statement .movMcC := ⟨_, _, rfl, rfl⟩
theorem movMcD : Statement .movMcD := ⟨_, _, rfl, rfl⟩
theorem movMcMb : Statement .movMcMb := ⟨_, _, rfl, rfl⟩
theorem movMcMc : Statement .movMcMc := ⟨_, _, rfl, rfl⟩
theorem movMcHd : Statement .movMcHd := ⟨_, _, rfl, rfl⟩
theorem movMcN (n : Byte) : Statement (.movMcN n) := ⟨_, _, rfl, rfl⟩
theorem movHdA : Statement .movHdA := ⟨_, _, rfl, rfl⟩
theorem movHdB : Statement .movHdB := ⟨_, _, rfl, rfl⟩
theorem movHdC : Statement .movHdC := ⟨_, _, rfl, rfl⟩
theorem movHdD : Statement .movHdD := ⟨_, _, rfl, rfl⟩
theorem movHdMb : Statement .movHdMb := ⟨_, _, rfl, rfl⟩
theorem movHdMc : Statement .movHdMc := ⟨_, _, rfl, rfl⟩
theorem movHdHd : Statement .movHdHd := ⟨_, _, rfl, rfl⟩
theorem movHdN (n : Byte) : Statement (.movHdN n) := ⟨_, _, rfl, rfl⟩
theorem undef120 : Statement .undef120 := ⟨_, _, rfl, rfl⟩
theorem undef121 : Statement .undef121 := ⟨_, _, rfl, rfl⟩
theorem undef122 : Statement .undef122 := ⟨_, _, rfl, rfl⟩
theorem undef123 : Statement .undef123 := ⟨_, _, rfl, rfl⟩
theorem undef124 : Statement .undef124 := ⟨_, _, rfl, rfl⟩
theorem undef125 : Statement .undef125 := ⟨_, _, rfl, rfl⟩
theorem undef126 : Statement .undef126 := ⟨_, _, rfl, rfl⟩
theorem undef127 : Statement .undef127 := ⟨_, _, rfl, rfl⟩
theorem addA : Statement .addA := ⟨_, _, rfl, rfl⟩
theorem addB : Statement .addB := ⟨_, _, rfl, rfl⟩
theorem addC : Statement .addC := ⟨_, _, rfl, rfl⟩
theorem addD : Statement .addD := ⟨_, _, rfl, rfl⟩
theorem addMb : Statement .addMb := ⟨_, _, rfl, rfl⟩
theorem addMc : Statement .addMc := ⟨_, _, rfl, rfl⟩
theorem addHd : Statement .addHd := ⟨_, _, rfl, rfl⟩
theorem addN (n : Byte) : Statement (.addN n) := ⟨_, _, rfl, rfl⟩
theorem subA : Statement .subA := ⟨_, _, rfl, rfl⟩
theorem subB : Statement .subB := ⟨_, _, rfl, rfl⟩
theorem subC : Statement .subC := ⟨_, _, rfl, rfl⟩
theorem subD : Statement .subD := ⟨_, _, rfl, rfl⟩
theorem subMb : Statement .subMb := ⟨_, _, rfl, rfl⟩
theorem subMc : Statement .subMc := ⟨_, _, rfl, rfl⟩
theorem subHd : Statement .subHd := ⟨_, _, rfl, rfl⟩
theorem subN (n : Byte) : Statement (.subN n) := ⟨_, _, rfl, rfl⟩
theorem mulA : Statement .mulA := ⟨_, _, rfl, rfl⟩
theorem mulB : Statement .mulB := ⟨_, _, rfl, rfl⟩
theorem mulC : Statement .mulC := ⟨_, _, rfl, rfl⟩
theorem mulD : Statement .mulD := ⟨_, _, rfl, rfl⟩
theorem mulMb : Statement .mulMb := ⟨_, _, rfl, rfl⟩
theorem mulMc : Statement .mulMc := ⟨_, _, rfl, rfl⟩
theorem mulHd : Statement .mulHd := ⟨_, _, rfl, rfl⟩
theorem mulN (n : Byte) : Statement (.mulN n) := ⟨_, _, rfl, rfl⟩
theorem divA : Statement .divA := ⟨_, _, rfl, rfl⟩
theorem divB : Statement .divB := ⟨_, _, rfl, rfl⟩
theorem divC : Statement .divC := ⟨_, _, rfl, rfl⟩
theorem divD : Statement .divD := ⟨_, _, rfl, rfl⟩
theorem divMb : Statement .divMb := ⟨_, _, rfl, rfl⟩
theorem divMc : Statement .divMc := ⟨_, _, rfl, rfl⟩
theorem divHd : Statement .divHd := ⟨_, _, rfl, rfl⟩
theorem divN (n : Byte) : Statement (.divN n) := ⟨_, _, rfl, rfl⟩
theorem modA : Statement .modA := ⟨_, _, rfl, rfl⟩
theorem modB : Statement .modB := ⟨_, _, rfl, rfl⟩
theorem modC : Statement .modC := ⟨_, _, rfl, rfl⟩
theorem modD : Statement .modD := ⟨_, _, rfl, rfl⟩
theorem modMb : Statement .modMb := ⟨_, _, rfl, rfl⟩
theorem modMc : Statement .modMc := ⟨_, _, rfl, rfl⟩
theorem modHd : Statement .modHd := ⟨_, _, rfl, rfl⟩
theorem modN (n : Byte) : Statement (.modN n) := ⟨_, _, rfl, rfl⟩
theorem andA : Statement .andA := ⟨_, _, rfl, rfl⟩
theorem andB : Statement .andB := ⟨_, _, rfl, rfl⟩
theorem andC : Statement .andC := ⟨_, _, rfl, rfl⟩
theorem andD : Statement .andD := ⟨_, _, rfl, rfl⟩
theorem andMb : Statement .andMb := ⟨_, _, rfl, rfl⟩
theorem andMc : Statement .andMc := ⟨_, _, rfl, rfl⟩
theorem andHd : Statement .andHd := ⟨_, _, rfl, rfl⟩
theorem andN (n : Byte) : Statement (.andN n) := ⟨_, _, rfl, rfl⟩
theorem andNotA : Statement .andNotA := ⟨_, _, rfl, rfl⟩
theorem andNotB : Statement .andNotB := ⟨_, _, rfl, rfl⟩
theorem andNotC : Statement .andNotC := ⟨_, _, rfl, rfl⟩
theorem andNotD : Statement .andNotD := ⟨_, _, rfl, rfl⟩
theorem andNotMb : Statement .andNotMb := ⟨_, _, rfl, rfl⟩
theorem andNotMc : Statement .andNotMc := ⟨_, _, rfl, rfl⟩
theorem andNotHd : Statement .andNotHd := ⟨_, _, rfl, rfl⟩
theorem andNotN (n : Byte) : Statement (.andNotN n) := ⟨_, _, rfl, rfl⟩
theorem orA : Statement .orA := ⟨_, _, rfl, rfl⟩
theorem orB : Statement .orB := ⟨_, _, rfl, rfl⟩
theorem orC : Statement .orC := ⟨_, _, rfl, rfl⟩
theorem orD : Statement .orD := ⟨_, _, rfl, rfl⟩
theorem orMb : Statement .orMb := ⟨_, _, rfl, rfl⟩
theorem orMc : Statement .orMc := ⟨_, _, rfl, rfl⟩
theorem orHd : Statement .orHd := ⟨_, _, rfl, rfl⟩
theorem orN (n : Byte) : Statement (.orN n) := ⟨_, _, rfl, rfl⟩
theorem xorA : Statement .xorA := ⟨_, _, rfl, rfl⟩
theorem xorB : Statement .xorB := ⟨_, _, rfl, rfl⟩
theorem xorC : Statement .xorC := ⟨_, _, rfl, rfl⟩
theorem xorD : Statement .xorD := ⟨_, _, rfl, rfl⟩
theorem xorMb : Statement .xorMb := ⟨_, _, rfl, rfl⟩
theorem xorMc : Statement .xorMc := ⟨_, _, rfl, rfl⟩
theorem xorHd : Statement .xorHd := ⟨_, _, rfl, rfl⟩
theorem xorN (n : Byte) : Statement (.xorN n) := ⟨_, _, rfl, rfl⟩
theorem shlA : Statement .shlA := ⟨_, _, rfl, rfl⟩
theorem shlB : Statement .shlB := ⟨_, _, rfl, rfl⟩
theorem shlC : Statement .shlC := ⟨_, _, rfl, rfl⟩
theorem shlD : Statement .shlD := ⟨_, _, rfl, rfl⟩
theorem shlMb : Statement .shlMb := ⟨_, _, rfl, rfl⟩
theorem shlMc : Statement .shlMc := ⟨_, _, rfl, rfl⟩
theorem shlHd : Statement .shlHd := ⟨_, _, rfl, rfl⟩
theorem shlN (n : Byte) : Statement (.shlN n) := ⟨_, _, rfl, rfl⟩
theorem shrA : Statement .shrA := ⟨_, _, rfl, rfl⟩
theorem shrB : Statement .shrB := ⟨_, _, rfl, rfl⟩
theorem shrC : Statement .shrC := ⟨_, _, rfl, rfl⟩
theorem shrD : Statement .shrD := ⟨_, _, rfl, rfl⟩
theorem shrMb : Statement .shrMb := ⟨_, _, rfl, rfl⟩
theorem shrMc : Statement .shrMc := ⟨_, _, rfl, rfl⟩
theorem shrHd : Statement .shrHd := ⟨_, _, rfl, rfl⟩
theorem shrN (n : Byte) : Statement (.shrN n) := ⟨_, _, rfl, rfl⟩
theorem eqA : Statement .eqA := ⟨_, _, rfl, rfl⟩
theorem eqB : Statement .eqB := ⟨_, _, rfl, rfl⟩
theorem eqC : Statement .eqC := ⟨_, _, rfl, rfl⟩
theorem eqD : Statement .eqD := ⟨_, _, rfl, rfl⟩
theorem eqMb : Statement .eqMb := ⟨_, _, rfl, rfl⟩
theorem eqMc : Statement .eqMc := ⟨_, _, rfl, rfl⟩
theorem eqHd : Statement .eqHd := ⟨_, _, rfl, rfl⟩
theorem eqN (n : Byte) : Statement (.eqN n) := ⟨_, _, rfl, rfl⟩
theorem ltA : Statement .ltA := ⟨_, _, rfl, rfl⟩
theorem ltB : Statement .ltB := ⟨_, _, rfl, rfl⟩
theorem ltC : Statement .ltC := ⟨_, _, rfl, rfl⟩
theorem ltD : Statement .ltD := ⟨_, _, rfl, rfl⟩
theorem ltMb : Statement .ltMb := ⟨_, _, rfl, rfl⟩
theorem ltMc : Statement .ltMc := ⟨_, _, rfl, rfl⟩
theorem ltHd : Statement .ltHd := ⟨_, _, rfl, rfl⟩
theorem ltN (n : Byte) : Statement (.ltN n) := ⟨_, _, rfl, rfl⟩
theorem gtA : Statement .gtA := ⟨_, _, rfl, rfl⟩
theorem gtB : Statement .gtB := ⟨_, _, rfl, rfl⟩
theorem gtC : Statement .gtC := ⟨_, _, rfl, rfl⟩
theorem gtD : Statement .gtD := ⟨_, _, rfl, rfl⟩
theorem gtMb : Statement .gtMb := ⟨_, _, rfl, rfl⟩
theorem gtMc : Statement .gtMc := ⟨_, _, rfl, rfl⟩
theorem gtHd : Statement .gtHd := ⟨_, _, rfl, rfl⟩
theorem gtN (n : Byte) : Statement (.gtN n) := ⟨_, _, rfl, rfl⟩
theorem undef240 : Statement .undef240 := ⟨_, _, rfl, rfl⟩
theorem undef241 : Statement .undef241 := ⟨_, _, rfl, rfl⟩
theorem undef242 : Statement .undef242 := ⟨_, _, rfl, rfl⟩
theorem undef243 : Statement .undef243 := ⟨_, _, rfl, rfl⟩
theorem undef244 : Statement .undef244 := ⟨_, _, rfl, rfl⟩
theorem undef245 : Statement .undef245 := ⟨_, _, rfl, rfl⟩
theorem undef246 : Statement .undef246 := ⟨_, _, rfl, rfl⟩
theorem undef247 : Statement .undef247 := ⟨_, _, rfl, rfl⟩
theorem undef248 : Statement .undef248 := ⟨_, _, rfl, rfl⟩
theorem undef249 : Statement .undef249 := ⟨_, _, rfl, rfl⟩
theorem undef250 : Statement .undef250 := ⟨_, _, rfl, rfl⟩
theorem undef251 : Statement .undef251 := ⟨_, _, rfl, rfl⟩
theorem undef252 : Statement .undef252 := ⟨_, _, rfl, rfl⟩
theorem undef253 : Statement .undef253 := ⟨_, _, rfl, rfl⟩
theorem undef254 : Statement .undef254 := ⟨_, _, rfl, rfl⟩
theorem lj (nl : Byte) (nh : Byte) : Statement (.lj nl nh) := ⟨_, _, rfl, rfl⟩

end Laws.EncodedLength

end Sys2Proof
end

