-- ==== Sys2Proof/Laws/Sequence.lean ====
section
/-! SUPPORT. What each part of an operation other than an instruction can do, once. -/

namespace Sys2Proof.Machine

/-! ### The coder and the predictor on the state -/

/-- `encode` on the state changes the coder and the Writer alone. -/
theorem State.encodeBit_eq (s : State) (y : Bool) (p : Nat) :
    s.encodeBit y p = { s with coder := (s.coder.encode y p).1, writer := s.writer ++ (s.coder.encode y p).2 } := rfl

/-- `update` ends with the byte complete and a `run` of HCOMP started, or with no `run`. -/
theorem State.update_cases (s : State) (y : Bool) (next : Task) :
    (256 ≤ ((s.pred.train y).advance y).c8.toNat ∧
      s.update y next = { s with
        pred := (s.pred.train y).advance y, inst := .hcomp, phase := .run next
        hcomp := { s.hcomp with
          a := BitVec.ofNat 32 (((s.pred.train y).advance y).c8.toNat - 256), pc := s.hcomp.hbegin } }) ∨
    (((s.pred.train y).advance y).c8.toNat < 256 ∧
      s.update y next = { s with pred := (s.pred.train y).advance y, phase := .work next }) := by
  by_cases h : 256 ≤ ((s.pred.train y).advance y).c8.toNat
  · exact .inl ⟨h, if_pos h⟩
  · exact .inr ⟨by omega, if_neg h⟩

/-- `c8` after a bit (R462): nothing is lost while it was below 256. -/
theorem Predictor.c8_advance (q : Predictor) (y : Bool) (h : q.c8.toNat < 256) :
    (q.advance y).c8.toNat = 2 * q.c8.toNat + y.toNat := by
  have : y.toNat ≤ 1 := y.toNat_le
  simp only [Predictor.advance, nextC8, BitVec.toNat_ofNat]
  omega

@[simp] theorem Predictor.c8_train (q : Predictor) (y : Bool) : (q.train y).c8 = q.c8 := rfl
@[simp] theorem Predictor.hmap4_train (q : Predictor) (y : Bool) : (q.train y).hmap4 = q.hmap4 := rfl
@[simp] theorem Predictor.h_train (q : Predictor) (y : Bool) : (q.train y).h = q.h := rfl
@[simp] theorem Predictor.p_train (q : Predictor) (y : Bool) : (q.train y).p = q.p := rfl
@[simp] theorem Predictor.c8_predict (q : Predictor) : q.predict.c8 = q.c8 := rfl
@[simp] theorem Predictor.hmap4_predict (q : Predictor) : q.predict.hmap4 = q.hmap4 := rfl
@[simp] theorem Predictor.h_predict (q : Predictor) : q.predict.h = q.h := rfl
@[simp] theorem Predictor.h_advance (q : Predictor) (y : Bool) : (q.advance y).h = q.h := rfl
@[simp] theorem Predictor.p_advance (q : Predictor) (y : Bool) : (q.advance y).p = q.p := rfl
@[simp] theorem Predictor.comps_advance (q : Predictor) (y : Bool) : (q.advance y).comps = q.comps := rfl

/-- A `decode` on the state goes on with its bit, or ends in one of two faults with the coder unchanged. -/
theorem State.decodeBit_cases (s : State) (p : Nat) (k : Bool → State → State) :
    (∃ y c rest, s.coder.decode p s.reader = .bit y c rest ∧
      s.decodeBit p k = k y { s with coder := c, reader := rest }) ∨
    s.decodeBit p k = s.raise .fmtCorrupt ∨ s.decodeBit p k = { s with reader := [] }.raise .fmtEof := by
  unfold State.decodeBit
  cases h : s.coder.decode p s.reader with
  | bit y c rest => exact .inl ⟨y, c, rest, rfl, rfl⟩
  | corrupt => exact .inr (.inl rfl)
  | eof => exact .inr (.inr rfl)

/-- What follows the flag: the end of the segment, its check failed, or the eight bits of a byte. -/
theorem afterFlag_cases (y : Bool) (s : State) :
    (y = true ∧ s.coder.curr = 0 ∧ afterFlag y s = { s with phase := .work (.write .eos) }) ∨
      (y = true ∧ s.coder.curr ≠ 0 ∧ afterFlag y s = s.raise .fmtEosCurr) ∨
      (y = false ∧ afterFlag y s = { s with phase := .work (.decodeBits 1) }) := by
  cases y
  · exact .inr (.inr ⟨rfl, rfl⟩)
  · by_cases h : s.coder.curr = 0
    · exact .inl ⟨rfl, h, if_neg (not_not.mpr h)⟩
    · exact .inr (.inl ⟨rfl, h, if_pos h⟩)

/-- The load of `curr` does not change `low` and `high`. -/
theorem Coder.loadCurr_range (count : Nat) (k : Coder) (input : List Byte) :
    (Coder.loadCurr count k input).1.low = k.low ∧ (Coder.loadCurr count k input).1.high = k.high := by
  induction count generalizing k input with
  | zero => exact ⟨rfl, rfl⟩
  | succ n ih =>
    cases input with
    | nil => exact ⟨rfl, rfl⟩
    | cons b rest => exact ih (k.pull b) rest

/-- The flag's step: a `decode` with probability 0 of `s`, or of `s` with four more bytes in `curr`; or the Reader ends. -/
theorem decodeFlag_cases (s : State) :
    (s.coder.curr ≠ 0 ∧ decodeFlag s = s.decodeBit 0 afterFlag) ∨
    (∃ c rest, s.coder.curr = 0 ∧ Coder.loadCurr 4 s.coder s.reader = (c, rest, true) ∧
      decodeFlag s = { s with coder := c, reader := rest }.decodeBit 0 afterFlag) ∨
    (∃ c rest, s.coder.curr = 0 ∧ Coder.loadCurr 4 s.coder s.reader = (c, rest, false) ∧
      decodeFlag s = { s with coder := c, reader := rest }.raise .fmtEof) := by
  unfold decodeFlag
  split
  · next h0 =>
    rcases h : Coder.loadCurr 4 s.coder s.reader with ⟨c, rest, ok⟩
    cases ok
    · exact .inr (.inr ⟨c, rest, h0, rfl, rfl⟩)
    · exact .inr (.inl ⟨c, rest, h0, rfl, rfl⟩)
  · next h0 => exact .inl ⟨h0, rfl⟩

/-! ### The PostProcessor -/

/-- What a `write` can reach: the PostProcessor, the PCOMP instance, the sinks, and how the operation goes on. -/
theorem State.ppWrite_frame (s : State) (sym : Symbol) :
    (s.ppWrite sym).hcomp = s.hcomp ∧ (s.ppWrite sym).pred = s.pred ∧ (s.ppWrite sym).coder = s.coder ∧
    (s.ppWrite sym).header = s.header ∧ (s.ppWrite sym).role = s.role ∧ (s.ppWrite sym).loaded = s.loaded ∧
    (s.ppWrite sym).caps = s.caps ∧ (s.ppWrite sym).outSink = s.outSink ∧ (s.ppWrite sym).sumSink = s.sumSink ∧
    (s.ppWrite sym).reader = s.reader ∧ (s.ppWrite sym).writer = s.writer ∧ (s.ppWrite sym).requests = s.requests := by
  unfold State.ppWrite
  split
  · unfold writeInit; split
    · exact ⟨rfl, rfl, rfl, rfl, rfl, rfl, rfl, rfl, rfl, rfl, rfl, rfl⟩
    · split_ifs <;> exact ⟨rfl, rfl, rfl, rfl, rfl, rfl, rfl, rfl, rfl, rfl, rfl, rfl⟩
  · unfold writePass; split <;> exact ⟨rfl, rfl, rfl, rfl, rfl, rfl, rfl, rfl, rfl, rfl, rfl, rfl⟩
  · unfold writeLenLow; split <;> exact ⟨rfl, rfl, rfl, rfl, rfl, rfl, rfl, rfl, rfl, rfl, rfl, rfl⟩
  · unfold writeLenHigh; split
    · exact ⟨rfl, rfl, rfl, rfl, rfl, rfl, rfl, rfl, rfl, rfl, rfl, rfl⟩
    · dsimp only; split <;> exact ⟨rfl, rfl, rfl, rfl, rfl, rfl, rfl, rfl, rfl, rfl, rfl, rfl⟩
  · unfold writeProgram; split
    · exact ⟨rfl, rfl, rfl, rfl, rfl, rfl, rfl, rfl, rfl, rfl, rfl, rfl⟩
    · dsimp only
      split
      · split <;> exact ⟨rfl, rfl, rfl, rfl, rfl, rfl, rfl, rfl, rfl, rfl, rfl, rfl⟩
      · exact ⟨rfl, rfl, rfl, rfl, rfl, rfl, rfl, rfl, rfl, rfl, rfl, rfl⟩
  · exact ⟨rfl, rfl, rfl, rfl, rfl, rfl, rfl, rfl, rfl, rfl, rfl, rfl⟩

/-- How a `write` goes on: it has ended, it has faulted with the core idle, or a `run` of PCOMP has started. -/
theorem State.ppWrite_phase (s : State) (sym : Symbol) :
    ((s.ppWrite sym).fault = s.fault ∧ (s.ppWrite sym).phase = .work (.finish sym.report)) ∨
    (∃ f, (s.ppWrite sym).fault = some f ∧ (s.ppWrite sym).phase = .idle ∧ (s.ppWrite sym).pp = s.pp ∧
      (s.ppWrite sym).pcomp = s.pcomp) ∨
    ((s.ppWrite sym).fault = s.fault ∧ (s.ppWrite sym).inst = .pcomp ∧
      (s.ppWrite sym).phase = .run (.finish sym.report)) := by
  unfold State.ppWrite
  split
  · unfold writeInit; split
    · exact .inr (.inl ⟨_, rfl, rfl, rfl, rfl⟩)
    · split_ifs
      · exact .inl ⟨rfl, rfl⟩
      · exact .inl ⟨rfl, rfl⟩
      · exact .inr (.inl ⟨_, rfl, rfl, rfl, rfl⟩)
  · unfold writePass; split <;> exact .inl ⟨rfl, rfl⟩
  · unfold writeLenLow; split
    · exact .inr (.inl ⟨_, rfl, rfl, rfl, rfl⟩)
    · exact .inl ⟨rfl, rfl⟩
  · unfold writeLenHigh; split
    · exact .inr (.inl ⟨_, rfl, rfl, rfl, rfl⟩)
    · dsimp only; split
      · exact .inr (.inl ⟨_, rfl, rfl, rfl, rfl⟩)
      · exact .inl ⟨rfl, rfl⟩
  · unfold writeProgram; split
    · exact .inr (.inl ⟨_, rfl, rfl, rfl, rfl⟩)
    · dsimp only
      split
      · split
        · exact .inr (.inl ⟨_, rfl, rfl, rfl, rfl⟩)
        · exact .inl ⟨rfl, rfl⟩
      · exact .inl ⟨rfl, rfl⟩
  · exact .inr (.inr ⟨rfl, rfl, rfl⟩)

/-! ### Requests -/

/-- A request that starts an operation is accepted, or refused with nothing but the report changed. -/
theorem State.begin_cases (s : State) (role : Role) (t : Task) :
    (s.accepts role = true ∧ s.begin role t = { s with phase := .work t }) ∨
      (s.accepts role = false ∧ s.begin role t = { s with reports := s.reports ++ [.refused] }) := by
  unfold State.begin
  cases h : s.accepts role
  · exact .inr ⟨rfl, rfl⟩
  · exact .inl ⟨rfl, rfl⟩

/-- A core accepts `compress` and `step` only loaded, with a clear latch, in the role. -/
theorem State.accepts_iff (s : State) (role : Role) :
    s.accepts role = true ↔ s.loaded = true ∧ s.fault = none ∧ s.role = role := by
  simp [State.accepts, and_assoc]

/-- What any request can do, apart from a `load`: an operation starts, the request is refused, the host's side changes. -/
theorem State.serve_cases (s : State) (q : Request) :
    (∃ role bytes, q = .load role bytes ∧ s.serve q = s.load role bytes) ∨
    (∃ t, s.fault = none ∧ s.loaded = true ∧ s.serve q = { s with phase := .work t } ∧
      ((∃ c, t = .encodeFlag c) ∨ t = .encodeEos ∨ t = .decodeFlag)) ∨
    s.serve q = { s with reports := s.reports ++ [.refused] } ∨
    (∃ bytes, s.serve q = { s with reader := bytes }) ∨
    ∃ out sum, s.serve q = { s with outSink := out, sumSink := sum } := by
  have start : ∀ role t, (s.fault = none ∧ s.loaded = true ∧ s.begin role t = { s with phase := .work t }) ∨
      s.begin role t = { s with reports := s.reports ++ [.refused] } := by
    intro role t
    rcases s.begin_cases role t with ⟨ha, he⟩ | ⟨-, he⟩
    · obtain ⟨hl, hf, -⟩ := (s.accepts_iff role).mp ha
      exact .inl ⟨hf, hl, he⟩
    · exact .inr he
  cases q with
  | load role bytes => exact .inl ⟨role, bytes, rfl, rfl⟩
  | compress c =>
    rcases start .encoding (.encodeFlag c) with ⟨hf, hl, he⟩ | he
    · exact .inr (.inl ⟨_, hf, hl, he, .inl ⟨c, rfl⟩⟩)
    · exact .inr (.inr (.inl he))
  | compressEos =>
    rcases start .encoding .encodeEos with ⟨hf, hl, he⟩ | he
    · exact .inr (.inl ⟨_, hf, hl, he, .inr (.inl rfl)⟩)
    · exact .inr (.inr (.inl he))
  | step =>
    rcases start .decoding .decodeFlag with ⟨hf, hl, he⟩ | he
    · exact .inr (.inl ⟨_, hf, hl, he, .inr (.inr rfl)⟩)
    · exact .inr (.inr (.inl he))
  | setReader bytes => exact .inr (.inr (.inr (.inl ⟨bytes, rfl⟩)))
  | setSinks out sum => exact .inr (.inr (.inr (.inr ⟨out, sum, rfl⟩)))

end Sys2Proof.Machine
end

