-- ==== Sys2Proof/Tests/Slice0.lean ====
section
/-! SUPPORT. Tests. The expected results are spec/95_test_vectors.md's, or worked by hand from the rule named; the
`witness_` theorems show states that meet the hypotheses of the obligations. -/

namespace Sys2Proof.Tests

open Sys2Proof Sys2Proof.Machine

/-! ### WellFormed refuses an ill-formed term for each check -/

theorem test_wf_accepts : wellFormedModel referenceCaps [.icm 16, .isse 19 0] = true := by decide
theorem test_wf_size_cm : (CompDesc.cm 33 0).sizesWithin referenceCaps = false := by decide
theorem test_wf_size_icm : (CompDesc.icm 27).sizesWithin referenceCaps = false := by decide
theorem test_wf_size_match_index : (CompDesc.matchModel 33 0).sizesWithin referenceCaps = false := by decide
theorem test_wf_size_match_buffer : (CompDesc.matchModel 0 33).sizesWithin referenceCaps = false := by decide
theorem test_wf_size_mix2 : (CompDesc.mix2 33 0 0 0 0).sizesWithin referenceCaps = false := by decide
theorem test_wf_size_mix : (CompDesc.mix 33 0 1 0 0).sizesWithin referenceCaps = false := by decide
theorem test_wf_size_isse : (CompDesc.isse 33 0).sizesWithin referenceCaps = false := by decide
theorem test_wf_size_sse : (CompDesc.sse 33 0 0 0).sizesWithin referenceCaps = false := by decide
theorem test_wf_ref_avg_j : (CompDesc.avg 1 0 128).refersBelow 1 = false := by decide
theorem test_wf_ref_avg_k : (CompDesc.avg 0 1 128).refersBelow 1 = false := by decide
theorem test_wf_ref_mix2_j : (CompDesc.mix2 0 1 0 24 255).refersBelow 1 = false := by decide
theorem test_wf_ref_mix2_k : (CompDesc.mix2 0 0 1 24 255).refersBelow 1 = false := by decide
theorem test_wf_ref_mix : (CompDesc.mix 0 1 1 24 255).refersBelow 1 = false := by decide
theorem test_wf_ref_isse : (CompDesc.isse 19 1).refersBelow 1 = false := by decide
theorem test_wf_ref_sse : (CompDesc.sse 0 1 0 0).refersBelow 1 = false := by decide
theorem test_wf_mix_no_input : (CompDesc.mix 0 0 0 24 255).refersBelow 1 = false := by decide
theorem test_wf_mix_too_many : (CompDesc.mix 0 0 2 24 255).refersBelow 1 = false := by decide
theorem test_wf_sse_start : (CompDesc.sse 0 0 5 1).countsWithin = false := by decide
theorem test_wf_no_components : wellFormedModel referenceCaps [] = false := by decide
theorem test_wf_second_component : wellFormedModel referenceCaps [.icm 16, .isse 19 1] = false := by decide

/-! ### Decoding: every opcode byte, written out from spec/opcode_table.json -/

/-- The instruction of an opcode byte with the operand bytes 0xA5 and 0x5A after it. -/
def decodedAs (op : Nat) : Option Instr := decodeTableWord 24 (0x5AA500 + op)

theorem test_decode_0_to_7 : List.map decodedAs
    [0b00000000, 0b00000001, 0b00000010, 0b00000011, 0b00000100, 0b00000101, 0b00000110, 0b00000111] =
  List.map some [.error, .incA, .decA, .notA, .zeroA, .undef5, .undef6, (.ldA 0xA5)] := by decide
theorem test_decode_8_to_15 : List.map decodedAs
    [0b00001000, 0b00001001, 0b00001010, 0b00001011, 0b00001100, 0b00001101, 0b00001110, 0b00001111] =
  List.map some [.swapB, .incB, .decB, .notB, .zeroB, .undef13, .undef14, (.ldB 0xA5)] := by decide
theorem test_decode_16_to_23 : List.map decodedAs
    [0b00010000, 0b00010001, 0b00010010, 0b00010011, 0b00010100, 0b00010101, 0b00010110, 0b00010111] =
  List.map some [.swapC, .incC, .decC, .notC, .zeroC, .undef21, .undef22, (.ldC 0xA5)] := by decide
theorem test_decode_24_to_31 : List.map decodedAs
    [0b00011000, 0b00011001, 0b00011010, 0b00011011, 0b00011100, 0b00011101, 0b00011110, 0b00011111] =
  List.map some [.swapD, .incD, .decD, .notD, .zeroD, .undef29, .undef30, (.ldD 0xA5)] := by decide
theorem test_decode_32_to_39 : List.map decodedAs
    [0b00100000, 0b00100001, 0b00100010, 0b00100011, 0b00100100, 0b00100101, 0b00100110, 0b00100111] =
  List.map some [.swapMb, .incMb, .decMb, .notMb, .zeroMb, .undef37, .undef38, (.jt 0xA5)] := by decide
theorem test_decode_40_to_47 : List.map decodedAs
    [0b00101000, 0b00101001, 0b00101010, 0b00101011, 0b00101100, 0b00101101, 0b00101110, 0b00101111] =
  List.map some [.swapMc, .incMc, .decMc, .notMc, .zeroMc, .undef45, .undef46, (.jf 0xA5)] := by decide
theorem test_decode_48_to_55 : List.map decodedAs
    [0b00110000, 0b00110001, 0b00110010, 0b00110011, 0b00110100, 0b00110101, 0b00110110, 0b00110111] =
  List.map some [.swapHd, .incHd, .decHd, .notHd, .zeroHd, .undef53, .undef54, (.stA 0xA5)] := by decide
theorem test_decode_56_to_63 : List.map decodedAs
    [0b00111000, 0b00111001, 0b00111010, 0b00111011, 0b00111100, 0b00111101, 0b00111110, 0b00111111] =
  List.map some [.halt, .out, .undef58, .hash, .hashd, .undef61, .undef62, (.jmp 0xA5)] := by decide
theorem test_decode_64_to_71 : List.map decodedAs
    [0b01000000, 0b01000001, 0b01000010, 0b01000011, 0b01000100, 0b01000101, 0b01000110, 0b01000111] =
  List.map some [.movAA, .movAB, .movAC, .movAD, .movAMb, .movAMc, .movAHd, (.movAN 0xA5)] := by decide
theorem test_decode_72_to_79 : List.map decodedAs
    [0b01001000, 0b01001001, 0b01001010, 0b01001011, 0b01001100, 0b01001101, 0b01001110, 0b01001111] =
  List.map some [.movBA, .movBB, .movBC, .movBD, .movBMb, .movBMc, .movBHd, (.movBN 0xA5)] := by decide
theorem test_decode_80_to_87 : List.map decodedAs
    [0b01010000, 0b01010001, 0b01010010, 0b01010011, 0b01010100, 0b01010101, 0b01010110, 0b01010111] =
  List.map some [.movCA, .movCB, .movCC, .movCD, .movCMb, .movCMc, .movCHd, (.movCN 0xA5)] := by decide
theorem test_decode_88_to_95 : List.map decodedAs
    [0b01011000, 0b01011001, 0b01011010, 0b01011011, 0b01011100, 0b01011101, 0b01011110, 0b01011111] =
  List.map some [.movDA, .movDB, .movDC, .movDD, .movDMb, .movDMc, .movDHd, (.movDN 0xA5)] := by decide
theorem test_decode_96_to_103 : List.map decodedAs
    [0b01100000, 0b01100001, 0b01100010, 0b01100011, 0b01100100, 0b01100101, 0b01100110, 0b01100111] =
  List.map some [.movMbA, .movMbB, .movMbC, .movMbD, .movMbMb, .movMbMc, .movMbHd, (.movMbN 0xA5)] := by decide
theorem test_decode_104_to_111 : List.map decodedAs
    [0b01101000, 0b01101001, 0b01101010, 0b01101011, 0b01101100, 0b01101101, 0b01101110, 0b01101111] =
  List.map some [.movMcA, .movMcB, .movMcC, .movMcD, .movMcMb, .movMcMc, .movMcHd, (.movMcN 0xA5)] := by decide
theorem test_decode_112_to_119 : List.map decodedAs
    [0b01110000, 0b01110001, 0b01110010, 0b01110011, 0b01110100, 0b01110101, 0b01110110, 0b01110111] =
  List.map some [.movHdA, .movHdB, .movHdC, .movHdD, .movHdMb, .movHdMc, .movHdHd, (.movHdN 0xA5)] := by decide
theorem test_decode_120_to_127 : List.map decodedAs
    [0b01111000, 0b01111001, 0b01111010, 0b01111011, 0b01111100, 0b01111101, 0b01111110, 0b01111111] =
  List.map some [.undef120, .undef121, .undef122, .undef123, .undef124, .undef125, .undef126, .undef127] := by decide
theorem test_decode_128_to_135 : List.map decodedAs
    [0b10000000, 0b10000001, 0b10000010, 0b10000011, 0b10000100, 0b10000101, 0b10000110, 0b10000111] =
  List.map some [.addA, .addB, .addC, .addD, .addMb, .addMc, .addHd, (.addN 0xA5)] := by decide
theorem test_decode_136_to_143 : List.map decodedAs
    [0b10001000, 0b10001001, 0b10001010, 0b10001011, 0b10001100, 0b10001101, 0b10001110, 0b10001111] =
  List.map some [.subA, .subB, .subC, .subD, .subMb, .subMc, .subHd, (.subN 0xA5)] := by decide
theorem test_decode_144_to_151 : List.map decodedAs
    [0b10010000, 0b10010001, 0b10010010, 0b10010011, 0b10010100, 0b10010101, 0b10010110, 0b10010111] =
  List.map some [.mulA, .mulB, .mulC, .mulD, .mulMb, .mulMc, .mulHd, (.mulN 0xA5)] := by decide
theorem test_decode_152_to_159 : List.map decodedAs
    [0b10011000, 0b10011001, 0b10011010, 0b10011011, 0b10011100, 0b10011101, 0b10011110, 0b10011111] =
  List.map some [.divA, .divB, .divC, .divD, .divMb, .divMc, .divHd, (.divN 0xA5)] := by decide
theorem test_decode_160_to_167 : List.map decodedAs
    [0b10100000, 0b10100001, 0b10100010, 0b10100011, 0b10100100, 0b10100101, 0b10100110, 0b10100111] =
  List.map some [.modA, .modB, .modC, .modD, .modMb, .modMc, .modHd, (.modN 0xA5)] := by decide
theorem test_decode_168_to_175 : List.map decodedAs
    [0b10101000, 0b10101001, 0b10101010, 0b10101011, 0b10101100, 0b10101101, 0b10101110, 0b10101111] =
  List.map some [.andA, .andB, .andC, .andD, .andMb, .andMc, .andHd, (.andN 0xA5)] := by decide
theorem test_decode_176_to_183 : List.map decodedAs
    [0b10110000, 0b10110001, 0b10110010, 0b10110011, 0b10110100, 0b10110101, 0b10110110, 0b10110111] =
  List.map some [.andNotA, .andNotB, .andNotC, .andNotD, .andNotMb, .andNotMc, .andNotHd, (.andNotN 0xA5)] := by decide
theorem test_decode_184_to_191 : List.map decodedAs
    [0b10111000, 0b10111001, 0b10111010, 0b10111011, 0b10111100, 0b10111101, 0b10111110, 0b10111111] =
  List.map some [.orA, .orB, .orC, .orD, .orMb, .orMc, .orHd, (.orN 0xA5)] := by decide
theorem test_decode_192_to_199 : List.map decodedAs
    [0b11000000, 0b11000001, 0b11000010, 0b11000011, 0b11000100, 0b11000101, 0b11000110, 0b11000111] =
  List.map some [.xorA, .xorB, .xorC, .xorD, .xorMb, .xorMc, .xorHd, (.xorN 0xA5)] := by decide
theorem test_decode_200_to_207 : List.map decodedAs
    [0b11001000, 0b11001001, 0b11001010, 0b11001011, 0b11001100, 0b11001101, 0b11001110, 0b11001111] =
  List.map some [.shlA, .shlB, .shlC, .shlD, .shlMb, .shlMc, .shlHd, (.shlN 0xA5)] := by decide
theorem test_decode_208_to_215 : List.map decodedAs
    [0b11010000, 0b11010001, 0b11010010, 0b11010011, 0b11010100, 0b11010101, 0b11010110, 0b11010111] =
  List.map some [.shrA, .shrB, .shrC, .shrD, .shrMb, .shrMc, .shrHd, (.shrN 0xA5)] := by decide
theorem test_decode_216_to_223 : List.map decodedAs
    [0b11011000, 0b11011001, 0b11011010, 0b11011011, 0b11011100, 0b11011101, 0b11011110, 0b11011111] =
  List.map some [.eqA, .eqB, .eqC, .eqD, .eqMb, .eqMc, .eqHd, (.eqN 0xA5)] := by decide
theorem test_decode_224_to_231 : List.map decodedAs
    [0b11100000, 0b11100001, 0b11100010, 0b11100011, 0b11100100, 0b11100101, 0b11100110, 0b11100111] =
  List.map some [.ltA, .ltB, .ltC, .ltD, .ltMb, .ltMc, .ltHd, (.ltN 0xA5)] := by decide
theorem test_decode_232_to_239 : List.map decodedAs
    [0b11101000, 0b11101001, 0b11101010, 0b11101011, 0b11101100, 0b11101101, 0b11101110, 0b11101111] =
  List.map some [.gtA, .gtB, .gtC, .gtD, .gtMb, .gtMc, .gtHd, (.gtN 0xA5)] := by decide
theorem test_decode_240_to_247 : List.map decodedAs
    [0b11110000, 0b11110001, 0b11110010, 0b11110011, 0b11110100, 0b11110101, 0b11110110, 0b11110111] =
  List.map some [.undef240, .undef241, .undef242, .undef243, .undef244, .undef245, .undef246, .undef247] := by decide
theorem test_decode_248_to_255 : List.map decodedAs
    [0b11111000, 0b11111001, 0b11111010, 0b11111011, 0b11111100, 0b11111101, 0b11111110, 0b11111111] =
  List.map some [.undef248, .undef249, .undef250, .undef251, .undef252, .undef253, .undef254, (.lj 0xA5 0x5A)] := by decide

/-! ### One instruction from the start state S0 of spec/95_test_vectors.md part 2.1 -/

/-- The PCOMP instance of S0. -/
def z0 : Zpaql :=
  { a := 0x89ABCDEF, b := 6, c := 0xFFFFFFFF, d := 5, f := true, pc := 276, r := [(7, 0x77777777)]
    m := [(0, 0x10), (1, 0x20), (2, 0x30), (3, 0xFF)], h := [(0, 0x11111111), (1, 0xFFFFFFFF), (2, 0x33333333)]
    mbits := 2, hbits := 2, prog := [], cend := 8, hbegin := 136, hend := 436 }

/-- S0 with this instance and these bytes at its PC; an output sink is attached. -/
def s0 (z : Zpaql) (bytes : List Byte) : State :=
  { State.reset with
    pcomp := { z with prog := pokeBytes [] z.pc bytes }, inst := .pcomp, phase := .run (.finish .byteProcessed)
    outSink := true, loaded := true, role := .decoding }

/-- The instance after one step with these bytes at PC, its program left out; none when the step takes a fault. -/
def ran (z : Zpaql) (bytes : List Byte) : Option Zpaql :=
  match step (s0 z bytes) with
  | .next t => if t.fault = none then some { t.pcomp with prog := [] } else none
  | .fault _ => none
  | .refused _ => none

/-- The fault that one step takes, with PC after it and whether the core is idle. -/
def faulted (z : Zpaql) (bytes : List Byte) : Option (CoreFault × Nat × Phase) :=
  match step (s0 z bytes) with
  | .next t => t.fault.map fun f => (f, t.pcomp.pc, t.phase)
  | .fault _ => none
  | .refused _ => none

theorem test_inc_wraps : ran { z0 with a := 0xFFFFFFFF } [0x01] = some { z0 with a := 0, pc := 277 } := by decide
theorem test_inc_b : ran z0 [0x09] = some { z0 with b := 7, pc := 277 } := by decide
theorem test_inc_mc : ran z0 [0x29] = some { z0 with m := [(0, 0x10), (1, 0x20), (2, 0x30)], pc := 277 } := by decide
theorem test_inc_hd :
    ran z0 [0x31] = some { z0 with h := [(0, 0x11111111), (2, 0x33333333)], pc := 277 } := by decide
theorem test_dec_wraps : ran { z0 with a := 0 } [0x02] = some { z0 with a := 0xFFFFFFFF, pc := 277 } := by decide
theorem test_dec_c : ran z0 [0x12] = some { z0 with c := 0xFFFFFFFE, pc := 277 } := by decide
theorem test_dec_mb_wraps : ran { z0 with b := 0, m := [(1, 0x20), (2, 0x30), (3, 0xFF)] } [0x22] =
    some { z0 with b := 0, m := [(0, 0xFF), (1, 0x20), (2, 0x30), (3, 0xFF)], pc := 277 } := by decide
theorem test_not_d : ran z0 [0x1B] = some { z0 with d := 0xFFFFFFFA, pc := 277 } := by decide
theorem test_not_mb :
    ran z0 [0x23] = some { z0 with m := [(0, 0x10), (1, 0x20), (2, 0xCF), (3, 0xFF)], pc := 277 } := by decide
theorem test_zero_c : ran z0 [0x14] = some { z0 with c := 0, pc := 277 } := by decide
theorem test_zero_mb : ran z0 [0x24] = some { z0 with m := [(0, 0x10), (1, 0x20), (3, 0xFF)], pc := 277 } := by decide
theorem test_swap_b : ran z0 [0x08] = some { z0 with a := 6, b := 0x89ABCDEF, pc := 277 } := by decide
theorem test_swap_mb : ran z0 [0x20] =
    some { z0 with a := 0x89ABCD30, m := [(0, 0x10), (1, 0x20), (2, 0xEF), (3, 0xFF)], pc := 277 } := by decide
theorem test_swap_hd : ran z0 [0x30] = some { z0 with
    a := 0xFFFFFFFF, h := [(0, 0x11111111), (1, 0x89ABCDEF), (2, 0x33333333)], pc := 277 } := by decide
theorem test_ld_a : ran z0 [0x07, 0x07] = some { z0 with a := 0x77777777, pc := 278 } := by decide
theorem test_ld_d : ran z0 [0x1F, 0x07] = some { z0 with d := 0x77777777, pc := 278 } := by decide
theorem test_st_a : ran z0 [0x37, 0x07] = some { z0 with r := [(7, 0x89ABCDEF)], pc := 278 } := by decide
theorem test_st_a_255 :
    ran z0 [0x37, 0xFF] = some { z0 with r := [(7, 0x77777777), (255, 0x89ABCDEF)], pc := 278 } := by decide
theorem test_jt_back : ran z0 [0x27, 0xFB] = some { z0 with pc := 273 } := by decide
theorem test_jt_not_taken : ran { z0 with f := false } [0x27, 0x05] = some { z0 with f := false, pc := 278 } := by decide
theorem test_jf_back : ran { z0 with f := false } [0x2F, 0x80] = some { z0 with f := false, pc := 150 } := by decide
theorem test_jf_not_taken : ran z0 [0x2F, 0x05] = some { z0 with pc := 278 } := by decide
theorem test_jmp_forward : ran z0 [0x3F, 0x7F] = some { z0 with pc := 405 } := by decide
theorem test_jmp_self : ran z0 [0x3F, 0xFE] = some z0 := by decide
theorem test_lj_last : ran z0 [0xFF, 0x2B, 0x01] = some { z0 with pc := 435 } := by decide
theorem test_lj_bounds :
    faulted z0 [0xFF, 0x2C, 0x01] = some (.execLjTarget .pcomp 276 436, 279, .idle) := by decide
theorem test_halt : step (s0 z0 [0x38]) = .next { s0 z0 [0x38] with
    pcomp := { (s0 z0 [0x38]).pcomp with pc := 277 }, phase := .halted (.finish .byteProcessed) } := by rfl
theorem test_out : step (s0 z0 [0x39]) = .next { s0 z0 [0x39] with
    pcomp := { (s0 z0 [0x39]).pcomp with pc := 277 }, output := [0xEF] } := by rfl
theorem test_hash : ran z0 [0x3B] = some { z0 with a := 0xB3CB6D9B, pc := 277 } := by decide
theorem test_hashd : ran z0 [0x3C] =
    some { z0 with h := [(0, 0x11111111), (1, 0xB3CAD9A6), (2, 0x33333333)], pc := 277 } := by decide
theorem test_error : faulted z0 [0x00] = some (.execErrorOpcode .pcomp 276, 277, .idle) := by decide
theorem test_undefined_127 :
    faulted z0 [0x7F, 0x01] = some (.execUndefinedOpcode .pcomp 276 0x7F, 277, .idle) := by decide
theorem test_mov_a_mb : ran z0 [0x44] = some { z0 with a := 0x30, pc := 277 } := by decide
theorem test_mov_b_n : ran z0 [0x4F, 0xA5] = some { z0 with b := 0xA5, pc := 278 } := by decide
theorem test_mov_mb_mb : ran z0 [0x64] = some { z0 with pc := 277 } := by decide
theorem test_mov_mc_b :
    ran z0 [0x69] = some { z0 with m := [(0, 0x10), (1, 0x20), (2, 0x30), (3, 0x06)], pc := 277 } := by decide
theorem test_mov_mb_hd :
    ran z0 [0x66] = some { z0 with m := [(0, 0x10), (1, 0x20), (2, 0xFF), (3, 0xFF)], pc := 277 } := by decide
theorem test_mov_hd_mc :
    ran z0 [0x75] = some { z0 with h := [(0, 0x11111111), (1, 0xFF), (2, 0x33333333)], pc := 277 } := by decide
theorem test_mov_d_hd : ran z0 [0x5E] = some { z0 with d := 0xFFFFFFFF, pc := 277 } := by decide
theorem test_mov_c_a : ran z0 [0x50] = some { z0 with c := 0x89ABCDEF, pc := 277 } := by decide
theorem test_add_a : ran z0 [0x80] = some { z0 with a := 0x13579BDE, pc := 277 } := by decide
theorem test_add_n : ran z0 [0x87, 0xEF] = some { z0 with a := 0x89ABCEDE, pc := 278 } := by decide
theorem test_sub_c : ran z0 [0x8A] = some { z0 with a := 0x89ABCDF0, pc := 277 } := by decide
theorem test_sub_borrows : ran { z0 with a := 0 } [0x8F, 0x01] = some { z0 with a := 0xFFFFFFFF, pc := 278 } := by decide
theorem test_mul_mb : ran z0 [0x94] = some { z0 with a := 0xD0369CD0, pc := 277 } := by decide
theorem test_div_b : ran z0 [0x99] = some { z0 with a := 0x16F1F7A7, pc := 277 } := by decide
theorem test_div_by_zero : ran z0 [0x9F, 0x00] = some { z0 with a := 0, pc := 278 } := by decide
theorem test_mod_mc : ran z0 [0xA5] = some { z0 with a := 0xF2, pc := 277 } := by decide
theorem test_mod_by_zero : ran { z0 with d := 3 } [0xA6] = some { z0 with a := 0, d := 3, pc := 277 } := by decide
theorem test_and_mc : ran z0 [0xAD] = some { z0 with a := 0xEF, pc := 277 } := by decide
theorem test_and_not_b : ran z0 [0xB1] = some { z0 with a := 0x89ABCDE9, pc := 277 } := by decide
theorem test_or_mb : ran z0 [0xBC] = some { z0 with a := 0x89ABCDFF, pc := 277 } := by decide
theorem test_xor_hd : ran z0 [0xC6] = some { z0 with a := 0x76543210, pc := 277 } := by decide
theorem test_shl_mb : ran z0 [0xCC] = some { z0 with a := 0xCDEF0000, pc := 277 } := by decide
theorem test_shl_33 : ran z0 [0xCF, 0x21] = some { z0 with a := 0x13579BDE, pc := 278 } := by decide
theorem test_shr_c : ran z0 [0xD2] = some { z0 with a := 1, pc := 277 } := by decide
theorem test_shr_32 : ran z0 [0xD7, 0x20] = some { z0 with pc := 278 } := by decide
theorem test_eq_n : ran z0 [0xDF, 0xEF] = some { z0 with f := false, pc := 278 } := by decide
theorem test_eq_sets : ran { z0 with f := false } [0xD8] = some { z0 with pc := 277 } := by decide
theorem test_lt_unsigned : ran { z0 with f := false } [0xE2] = some { z0 with pc := 277 } := by decide
theorem test_lt_equal : ran z0 [0xE0] = some { z0 with f := false, pc := 277 } := by decide
theorem test_gt_unsigned : ran { z0 with f := false } [0xE9] = some { z0 with pc := 277 } := by decide
theorem test_gt_mb : ran { z0 with a := 0x2F } [0xEC] = some { z0 with a := 0x2F, f := false, pc := 277 } := by decide

/-! Fetches at the end of the program (part 2.5b): `hend` cuts off an operand byte, or the opcode byte itself. -/

theorem test_fetch_operand :
    faulted { z0 with hend := 277 } [0x47, 0xA5] = some (.execFetchBounds .pcomp 277, 277, .idle) := by decide
theorem test_fetch_second_operand :
    faulted { z0 with hend := 278 } [0xFF, 0x02, 0x01] = some (.execFetchBounds .pcomp 278, 278, .idle) := by decide
theorem test_fetch_opcode :
    faulted { z0 with hend := 276 } [0x47, 0xA5] = some (.execFetchBounds .pcomp 276, 276, .idle) := by decide
theorem test_fetch_below :
    faulted { z0 with pc := 135 } [0x01] = some (.execFetchBounds .pcomp 135, 135, .idle) := by decide
theorem test_fetch_last_byte : ran { z0 with hend := 277 } [0x01] = some { z0 with a := 0x89ABCDF0, hend := 277, pc := 277 } := by
  decide

/-- What the host asks: the instruction of a table word is run as the first instruction after reset. -/
theorem test_reset_runs_word : step (State.reset.withFetchWord 16 0xA547) = .next
    { State.reset.withFetchWord 16 0xA547 with
      hcomp := { (State.reset.withFetchWord 16 0xA547).hcomp with a := 0xA5, pc := 2 } } := by rfl

/-! ### `load` (part 2.8, load checks) -/

/-- A header with these component bytes, `hh = hm = ph = pm = 0` and the HCOMP section `38 00`. -/
def modelBytes (n : Byte) (comps : List Byte) : List Byte :=
  [BitVec.ofNat 8 (comps.length + 8), 0, 0, 0, 0, 0, n] ++ comps ++ [0, 0x38, 0]

/-- The fault of a `load`, none when it succeeds. -/
def loadFault (bytes : List Byte) : Option CoreFault := (State.reset.load .encoding bytes).fault

theorem test_load_min : loadFault (modelBytes 2 [0x03, 0x10, 0x08, 0x13, 0x00]) = none := by decide
theorem test_load_forward : loadFault (modelBytes 2 [0x03, 0x10, 0x08, 0x13, 0x01]) = some (.modelForwardRef 1) := by
  decide
theorem test_load_mix_none :
    loadFault (modelBytes 2 [0x01, 0x80, 0x07, 0x00, 0x00, 0x00, 0x18, 0xFF]) = some (.modelMixRange 1) := by decide
theorem test_load_mix_last :
    loadFault (modelBytes 3 [0x01, 0x80, 0x01, 0x80, 0x07, 0x00, 0x01, 0x02, 0x18, 0xFF]) = some (.modelMixRange 2) := by
  decide
theorem test_load_mix2_all :
    loadFault (modelBytes 3 [0x01, 0x80, 0x01, 0x80, 0x06, 0x00, 0x00, 0x01, 0x18, 0xFF]) = none := by decide
theorem test_load_sse_start :
    loadFault (modelBytes 2 [0x01, 0x80, 0x09, 0x00, 0x00, 0x05, 0x01]) = some (.modelSseStart 1) := by decide
theorem test_load_no_components : loadFault (modelBytes 0 []) = some .modelNoComponents := by decide
theorem test_load_tag : loadFault (modelBytes 1 [0x0A, 0x00]) = some .fmtCompTag := by decide
theorem test_load_truncated : loadFault [0x0B, 0x00, 0, 0, 0, 0, 1, 2, 4, 3, 0, 0x38] = some .fmtHeaderTruncated := by decide
theorem test_load_comp_end : loadFault [0x0B, 0x00, 0, 0, 0, 0, 1, 2, 4, 3, 1, 0x38, 0] = some .fmtCompEnd := by decide
theorem test_load_hcomp_end : loadFault [0x0B, 0x00, 0, 0, 0, 0, 1, 2, 4, 3, 0, 0x38, 1] = some .fmtHcompEnd := by decide
theorem test_load_hsize : loadFault [0x0B, 0x00, 0, 33, 0, 0, 1, 2, 4, 3, 0, 0x38, 0] = some (.resHsize 33) := by decide
theorem test_load_comp_size : loadFault (modelBytes 1 [0x03, 27]) = some (.resCompSize 27) := by decide

/-! ### The tables (parts 2.6 and 2.7) -/

theorem test_squash : [-2048, -512, -256, -1, 0, 1, 512, 1024, 2047].map squash =
    [0, 10, 589, 16256, 16384, 16511, 32757, 32767, 32767] := by decide +kernel
theorem test_stretch : [0, 100, 8192, 16384, 32767].map stretch = [-710, -370, -70, 0, 710] := by decide +kernel
theorem test_dt : [0, 1, 2, 3, 10, 100, 255, 1022, 1023].map dt =
    [87380, 52428, 37448, 29126, 11396, 1290, 510, 128, 126] := by decide +kernel
theorem test_dt2k : [0, 1, 2, 3, 15, 16, 32, 255].map dt2k = [0, 2048, 1024, 682, 136, 128, 64, 8] := by decide +kernel
theorem test_next_state : ([0, 4, 7, 100, 193, 253, 254, 255] : List Byte).map (fun s => (nextState s false, nextState s true)) =
    [(1, 2), (8, 11), (13, 15), (80, 83), (193, 59), (253, 77), (86, 254), (0, 0)] := by decide +kernel

theorem test_find_hit_fresh : findRow [] 2 0x001 = (16, []) := by decide
theorem test_find_tie_to_h2 : findRow [(16, 1), (17, 5)] 2 0x009 = (48, [(16, 1), (17, 5), (48, 2)]) := by decide
theorem test_find_evicts_h0 : findRow [(1, 7), (16, 1), (17, 5), (48, 2), (49, 9)] 2 0x00D =
    (16, [(1, 7), (16, 3), (48, 2), (49, 9)]) := by decide
theorem test_find_third_row : findRow [(1, 7), (16, 3), (48, 2), (49, 9)] 2 0x009 =
    (48, [(1, 7), (16, 3), (48, 2), (49, 9)]) := by decide

/-! ### The components, bit 0 of the traces of part 2.8 -/

/-- The probability of the first bit, and the components after it has been learned. -/
def firstBit (descs : List CompDesc) (y : Bool) : Nat × List (Nat × Int) × List Component :=
  let q := (Predictor.ofDescs descs).predict
  (q.p1, q.p, (q.train y).comps)

theorem test_cm : (firstBit [.cm 4 3] true).1 = 16384 ∧
    (firstBit [.cm 4 3] true).2.2 = [{ Component.init (.cm 4 3) with cxt := 1, cm := [(1, 0xD553A801)] }] := by
  decide +kernel
theorem test_icm : (firstBit [.icm 2] true).2.2 =
    [{ Component.init (.icm 2) with ht := [(0, 1), (1, 2)], cm := [(0, 0x00400FFF)] }] := by decide +kernel
theorem test_sse : (firstBit [.const 160, .sse 2 0 8 255] true).1 = 28527 ∧
    (firstBit [.const 160, .sse 2 0 8 255] true).2.1 = [(0, 128), (1, 122)] ∧
    ((firstBit [.const 160, .sse 2 0 8 255] true).2.2.map fun k => (k.cxt, k.cm)) = [(0, []), (50, [(50, 0xEE9F1C09)])] := by
  decide +kernel
theorem test_isse : (firstBit [.const 160, .isse 2 0] true).2.1 = [(0, 128), (1, 64)] ∧
    ((firstBit [.const 160, .isse 2 0] true).2.2.map fun k => (k.weight 0, k.weight 1, k.ht))[1]? =
      some (32906, 275, [(0, 1), (1, 2)]) := by decide +kernel
theorem test_mix : (firstBit [.const 160, .mix 0 0 1 24 0] true).1 = 28861 ∧
    ((firstBit [.const 160, .mix 0 0 1 24 0] true).2.2.map (·.cm))[1]? = some [(0, 65628)] := by decide +kernel
/-- Worked by hand from R424: (128*64 + 288*192) / 256. -/
theorem test_avg : (firstBit [.const 160, .const 200, .avg 0 1 64] true).2.1 = [(0, 128), (1, 288), (2, 248)] := by
  decide +kernel
/-- Worked by hand from R425 and R445: p = (128 + 288) / 2 = 208, squash 31544; err = (32767 - 31544) * 24 >> 5 = 917;
w = 32768 + ((917 * -160 + 4096) >> 13) = 32768 - 18. -/
theorem test_mix2 : (firstBit [.const 160, .const 200, .mix2 0 0 1 24 0] true).2.1 = [(0, 128), (1, 288), (2, 208)] ∧
    ((firstBit [.const 160, .const 200, .mix2 0 0 1 24 0] true).2.2.map (·.a16))[2]? = some [(0, 32750)] := by
  decide +kernel
/-- Worked by hand from R423 and R443: with no match `p = 0`; the bit enters the byte at `limit`, `cxt` counts it. -/
theorem test_match : (firstBit [.matchModel 2 2] true).1 = 16384 ∧
    (firstBit [.matchModel 2 2] true).2.2 = [{ Component.init (.matchModel 2 2) with cxt := 1, ht := [(0, 1)] }] := by
  decide +kernel
/-- R423 with a match of length 1: the predicted bit is bit 7 of the byte at `limit - b`, 1 here, so p = stretch(-2048). -/
theorem test_match_predicts : predictMatch 2 { Component.init (.matchModel 2 2) with a := 1, b := 1, limit := 1, ht := [(0, 0x80)] } =
    ({ Component.init (.matchModel 2 2) with a := 1, b := 1, c := 1, limit := 1, ht := [(0, 0x80)] }, stretch 30720) := by
  decide +kernel
/-- The `hmap4` column of part 2.8: the byte 0xA5. -/
theorem test_hmap4 : nextHmap4 3 1 true = 3 ∧ nextHmap4 6 3 false = 6 ∧ nextHmap4 13 6 true = 13 ∧
    nextHmap4 26 13 false = 417 ∧ nextHmap4 52 417 false = 418 ∧ nextHmap4 105 418 true = 421 ∧
    nextHmap4 210 421 false = 426 := by decide

/-! ### The coder (part 2.9) -/

theorem test_encode_1 : Coder.reset.encode false 0 = ({ low := 2, high := 0xFFFFFFFF, curr := 0 }, []) := by decide
theorem test_encode_2 :
    Coder.reset.encode true 0 = ({ low := 1, high := 0xFFFFFFFF, curr := 0 }, [0, 0, 0, 1]) := by decide
theorem test_encode_4 : Coder.reset.encode true 1 = ({ low := 0x100, high := 0x010000FF, curr := 0 }, [0]) := by decide
theorem test_encode_7 :
    Coder.reset.encode false 65535 = ({ low := 1, high := 0xFFFFFFFF, curr := 0 }, [0xFF, 0xFF]) := by decide
theorem test_decode_1 : { Coder.reset with curr := 0x8000FFFF }.decode 32769 [] =
    .bit true { low := 1, high := 0x8000FFFF, curr := 0x8000FFFF } [] := by decide
theorem test_decode_2 : { Coder.reset with curr := 0x80010000 }.decode 32769 [] =
    .bit false { low := 0x80010000, high := 0xFFFFFFFF, curr := 0x80010000 } [] := by decide
theorem test_decode_3 : { Coder.reset with curr := 1 }.decode 0 [0xAA, 0xBB, 0xCC, 0xDD] =
    .bit true { low := 1, high := 0xFFFFFFFF, curr := 0xAABBCCDD } [] := by decide
theorem test_decode_4 : { Coder.reset with curr := 0xFFFFFFFF }.decode 65535 [0x11, 0x22] =
    .bit false { low := 1, high := 0xFFFFFFFF, curr := 0xFFFF1122 } [] := by decide
theorem test_decode_corrupt : Coder.reset.decode 1 [] = .corrupt := by decide
theorem test_decode_eof : { Coder.reset with curr := 1 }.decode 0 [0xAA] = .eof := by decide

/-! ### Parts of operations -/

/-- A loaded core of one CM component in the middle of a byte: 0xA5, four bits of it coded (part 2.8). -/
def midByte : State :=
  { State.reset.load .encoding (modelBytes 1 [0x02, 0x04, 0x03]) with
    pred := { Predictor.ofDescs [.cm 4 3] with c8 := 26, hmap4 := 417 }, phase := .work (.encodeBits 0xA5 4) }

/-- The same with its last bit to come. -/
def lastBit : State :=
  { midByte with pred := { midByte.pred with c8 := 210, hmap4 := 426 }, phase := .work (.encodeBits 0xA5 1) }

/-- The state after a step, or the state itself when there is no next one. -/
def after (s : State) : State :=
  match step s with
  | .next t => t
  | .fault _ => s
  | .refused _ => s

theorem test_bit_in_byte : (after midByte).pred.c8 = 52 ∧ (after midByte).pred.hmap4 = 418 ∧
    (after midByte).phase = .work (.encodeBits 0xA5 3) := by decide +kernel
theorem test_last_bit : (after lastBit).hcomp.a = 0xA5 ∧ (after lastBit).hcomp.pc = 139 ∧ (after lastBit).inst = .hcomp ∧
    (after lastBit).phase = .run (.encodeBits 0xA5 0) := by decide +kernel

/-- A decoding core of the same model with these bytes in its Reader, about to decode a flag. -/
def atFlag (bytes : List Byte) : State :=
  { State.reset.load .decoding (modelBytes 1 [0x02, 0x04, 0x03]) with reader := bytes, phase := .work .decodeFlag }

theorem test_flag_corrupt : (after (atFlag [0, 0, 0, 0, 0])).fault = some .fmtCorrupt := by decide
theorem test_flag_eof : (after (atFlag [0x9E, 0x57, 0x80])).fault = some .fmtEof := by decide
theorem test_flag_end : (after (atFlag [0, 0, 0, 1, 0, 0, 0, 0])).phase = .work (.write .eos) ∧
    (after (atFlag [0, 0, 0, 1, 0, 0, 0, 0])).reader = [] ∧ (after (atFlag [0, 0, 0, 1, 0, 0, 0, 0])).coder.curr = 0 := by decide
theorem test_flag_end_curr : (after (atFlag [0, 0, 0, 1, 1, 2, 3, 4])).fault = some .fmtEosCurr := by decide
theorem test_flag_byte : (after (atFlag [0x9E, 0x57, 0x80, 0x8A])).phase = .work (.decodeBits 1) := by decide

/-! ### Witnesses: states and operands that meet the hypotheses of the obligations, each clause at a boundary -/

theorem witness_DecodedBytesAreTheEncoding : decode [0x07, 0x09, 0x01] = .ok (.ldA 9, [0x01]) := by decide

/-- The instruction's bytes are the whole program. -/
theorem witness_StepRunsDecodedInstruction :
    let s := s0 { z0 with pc := 136, hend := 138 } [0x47, 0xA5]
    s.fault = none ∧ s.phase = .run (.finish .byteProcessed) ∧
      ∀ k, k < (encode (.movAN 0xA5)).length → s.vm.hbegin ≤ s.vm.pc + k ∧ s.vm.pc + k < s.vm.hend ∧
        (encode (.movAN 0xA5))[k]? = some (s.vm.readP (s.vm.pc + k)) := by decide

/-- The opcode byte, the first and the second operand byte of an `LJ` at `hend`; the opcode byte below `hbegin`. -/
theorem witness_FetchOutsideProgramFaults :
    (∀ k, k < 3 → let s := s0 { z0 with hend := 276 + k } [0xFF, 0x02, 0x01]
      s.fault = none ∧ s.phase = .run (.finish .byteProcessed) ∧ k < (encode (.lj 2 1)).length ∧
      (∀ j, j < k → s.vm.hbegin ≤ s.vm.pc + j ∧ s.vm.pc + j < s.vm.hend ∧
        (encode (.lj 2 1))[j]? = some (s.vm.readP (s.vm.pc + j))) ∧ s.vm.hend ≤ s.vm.pc + k) ∧
    (s0 { z0 with pc := 135 } []).vm.pc + 0 < (s0 { z0 with pc := 135 } []).vm.hbegin := by decide

/-- The lowest PC, a jump to address 0, with F set and clear. -/
theorem witness_ShortJumpResult : 126 ≤ (s0 { z0 with pc := 126 } [0x27, 0x80]).vm.pc ∧
    ran { z0 with pc := 126, hbegin := 100 } [0x27, 0x80] = some { z0 with pc := 0, hbegin := 100 } ∧
    ran { z0 with pc := 126, hbegin := 100, f := false } [0x2F, 0x80] =
      some { z0 with pc := 0, hbegin := 100, f := false } := by decide

/-- The last address of the program, and the first beyond it. -/
theorem witness_LongJumpResult :
    (s0 z0 []).vm.hbegin + (0x2B : Byte).toNat + 256 * (0x01 : Byte).toNat < (s0 z0 []).vm.hend ∧
    (s0 z0 []).vm.hend ≤ (s0 z0 []).vm.hbegin + (0x2C : Byte).toNat + 256 * (0x01 : Byte).toNat := by decide

theorem witness_HaltResult : (s0 z0 [0x38]).phase = .run (.finish .byteProcessed) := rfl

theorem witness_FaultingOpcodeResult :
    (5, Instr.undef5) ∈ Instr.undefinedRows ∧ (254, Instr.undef254) ∈ Instr.undefinedRows := by decide

theorem witness_OnlyComparisonsWriteF :
    (∃ t, exec .incA (s0 z0 [0x01]) = .next t) ∧ ∀ k src, Instr.incA ≠ Instr.ofCmp k src := by
  refine ⟨⟨_, rfl⟩, fun k src => ?_⟩
  cases src with
  | loc x => cases k <;> cases x <;> decide
  | imm n => cases k <;> exact fun h => nomatch h

theorem witness_OnlyStoreRegisterWritesR :
    (∃ t, exec .eqA (s0 z0 [0xD8]) = .next t) ∧ ∀ n, Instr.eqA ≠ Instr.stA n :=
  ⟨⟨_, rfl⟩, fun _ h => nomatch h⟩

theorem witness_ExecReachesOnlyItsInstance :
    (∃ t, exec .out (s0 z0 [0x39]) = .next t) ∧ (s0 z0 [0x39]).inst = .pcomp ∧
      (∃ t, exec .out State.reset = .next t) ∧ State.reset.inst = .hcomp := ⟨⟨_, rfl⟩, rfl, ⟨_, rfl⟩, rfl⟩

theorem witness_MemoryFormKept : midByte.MemoryForm ∧ ∃ t, step midByte = .next t := by
  refine ⟨⟨⟨by decide, by decide, by decide, by decide, by decide⟩, ⟨by decide, by decide, by decide, by decide, by decide⟩,
    by decide, by decide, by decide, fun k hk => ?_⟩, ⟨_, rfl⟩⟩
  obtain rfl : k = Component.init (.cm 4 3) := by simpa [midByte, Predictor.ofDescs] using hk
  exact ⟨by decide, by decide, by decide⟩

theorem witness_CoderBoundsKept : midByte.coder.Bounds ∧ ∃ t, step midByte = .next t :=
  ⟨⟨by decide, by decide, by decide⟩, ⟨_, rfl⟩⟩

/-- Inside a byte, and while HCOMP runs. -/
theorem witness_PartialByteKept : midByte.PartialByte ∧ (∃ t, step midByte = .next t) ∧
    State.PartialByte { midByte with pred := { midByte.pred with c8 := 256 + 0xA5 }, phase := .run (.encodeBits 0xA5 0) } :=
  ⟨⟨by decide, by decide, fun h => absurd h (by decide)⟩, ⟨_, rfl⟩, by decide, by decide, fun _ => .inr ⟨rfl, _, .inl rfl⟩⟩

theorem witness_GapBeforeProgramKept : midByte.GapBeforeProgram ∧ midByte.loaded = true ∧ (∃ t, step midByte = .next t) ∧
    State.GapBeforeProgram { midByte with pp := { midByte.pp with state := .running }, pcomp := z0 } :=
  ⟨⟨by decide, by decide⟩, rfl, ⟨_, rfl⟩, by decide, by decide⟩

theorem witness_FaultedIsIdleKept : midByte.FaultedIsIdle ∧ (∃ t, step midByte = .next t) ∧
    State.FaultedIsIdle { State.reset with fault := some .fmtEof } :=
  ⟨fun h => absurd rfl h, ⟨_, rfl⟩, fun _ => rfl⟩

theorem witness_OutputsInRangeKept :
    Predictor.OutputsInRange { midByte.pred with p := [(0, -2048), (1, 2047)] } ∧ ∃ t, step midByte = .next t := by
  refine ⟨fun i => ?_, ⟨_, rfl⟩⟩
  simp only [pAt, peek]
  split_ifs <;> decide

theorem witness_SplitPoint : Coder.reset.low.toNat < Coder.reset.high.toNat ∧ 65535 < 65536 ∧
    (Coder.reset.mid 65535).toNat = 0xFFFEFFFF ∧ (Coder.reset.mid 0).toNat = 1 := by decide

/-- The widest and the narrowest range. -/
theorem witness_EndOfSegmentFlush : midByte.fault = none ∧
    ({ midByte with phase := .work .encodeEos } : State).phase = .work .encodeEos ∧
    midByte.coder.low.toNat < midByte.coder.high.toNat ∧
    (0xFFFFFFFE : Word).toNat < (0xFFFFFFFF : Word).toNat := by decide

theorem witness_CoderRoundTrip : ∀ b ∈ [(true, 65535), (false, 65535), (true, 0), (false, 0)], b.2 < 65536 := by decide

/-- The bit 0 inside a byte with `curr` at the bottom of its part, and the last bit 1 with `curr` at the top of its part. -/
theorem witness_LockstepBit :
    (let d : State := { midByte with coder := { Coder.reset with curr := 0x80010000 }, reader := [1, 2, 3, 4]
                                     phase := .work (.decodeBits 26) }
     midByte.fault = none ∧ midByte.phase = .work (.encodeBits 0xA5 4) ∧ midByte.pred = d.pred ∧
      midByte.hcomp = d.hcomp ∧ midByte.coder.low = d.coder.low ∧ midByte.coder.high = d.coder.high ∧
      midByte.coder.low.toNat < midByte.coder.high.toNat ∧ (0xA5 : Byte).getLsbD 3 = false ∧
      (midByte.coder.narrow false (2 * midByte.pred.predict.p1 + 1)).low.toNat = d.coder.curr.toNat ∧
      d.coder.curr.toNat ≤ (midByte.coder.narrow false (2 * midByte.pred.predict.p1 + 1)).high.toNat ∧
      4 ≤ d.reader.length) ∧
    (let curr : Word := 0x8000FFFF
     lastBit.phase = .work (.encodeBits 0xA5 1) ∧ (0xA5 : Byte).getLsbD 0 = true ∧
      (lastBit.coder.narrow true (2 * lastBit.pred.predict.p1 + 1)).low.toNat ≤ curr.toNat ∧
      curr.toNat = (lastBit.coder.narrow true (2 * lastBit.pred.predict.p1 + 1)).high.toNat) := by decide +kernel

theorem witness_PredictLeavesTables :
    ∃ k k', midByte.pred.comps[0]? = some k ∧ midByte.pred.predict.comps[0]? = some k' := ⟨_, _, rfl, rfl⟩

/-- The highest ceiling, with the count below it and at it. -/
theorem witness_TrainResult : 1020 ≤ 1020 ∧ (trainCell 0x800003FB 1020 true).toNat % 1024 = 1020 ∧
    (trainCell 0x800003FC 1020 true).toNat % 1024 = 1020 := by decide +kernel

/-- The smallest table with three rows. A hit in each row with a hit in a later one beside it, and misses that evict h0 (a
tie of all three), h1 (strictly lowest) and h2 (a tie with h1, below h0). -/
theorem witness_FindRowResult :
    2 ≤ 2 ∧ 16 * (0x009 % 2 ^ 2) = 16 ∧ BitVec.ofNat 8 (0x009 / 2 ^ 2) = 2 ∧
    findRow [(0, 2), (16, 2)] 2 9 = (16, [(0, 2), (16, 2)]) ∧ findRow [(0, 2), (48, 2)] 2 9 = (0, [(0, 2), (48, 2)]) ∧
    findRow [(48, 2)] 2 9 = (48, [(48, 2)]) ∧ (findRow [] 2 9).1 = 16 ∧
    (findRow [(17, 2), (1, 1), (49, 2)] 2 9).1 = 0 ∧ (findRow [(17, 2), (1, 1), (49, 1)] 2 9).1 = 48 := by decide +kernel

/-- A decoding core in a byte, `c8` and the loop's variable at `c`, with these bytes in its Reader. -/
def inByte (c : BitVec 9) (curr : Word) (bytes : List Byte) : State :=
  { midByte with
    pred := { midByte.pred with c8 := c }, coder := { Coder.reset with curr := curr }, reader := bytes
    phase := .work (.decodeBits c) }

/-- The first and the last `c8` at which the bit completes no byte or completes it; in the decoding core a bit, a `curr`
out of range, and a Reader that ends. -/
theorem witness_UpdateRunsHcomp :
    (∀ c ∈ [(1 : BitVec 9), 127, 128, 255],
      (inByte c 0 []).fault = none ∧ (inByte c 0 []).pred.c8.toNat < 256 ∧ c.toNat < 256) ∧
    ({ midByte with pred := { midByte.pred with c8 := 255 } } : State).phase = .work (.encodeBits 0xA5 (3 + 1)) ∧
    (inByte 128 1 []).phase = .work (.decodeBits 128) ∧
    (inByte 128 1 []).coder.decode (2 * (inByte 128 1 []).pred.predict.p1 + 1) [] =
      .bit true { low := 1, high := 0x8000FFFF, curr := 1 } [] ∧
    (inByte 127 0 []).coder.decode (2 * (inByte 127 0 []).pred.predict.p1 + 1) [] = .corrupt ∧
    Coder.decode { low := 1, high := 0xFFFFFF, curr := 1 } 0 [] = .eof := by decide +kernel

theorem witness_ContextsReloaded :
    let s : State := { lastBit with phase := .halted (.encodeBits 0xA5 0) }
    s.fault = none ∧ s.phase = .halted (.encodeBits 0xA5 0) ∧ s.inst = .hcomp ∧ 0 < s.pred.comps.length ∧
      s.pred.comps.length ≤ 1 := by decide

/-- 255 components and the shortest HCOMP section. -/
theorem witness_HeaderParsesBack : (List.replicate 255 (CompDesc.const 128)).length ≤ 255 ∧
    ([0] : List Byte).getLast? = some 0 ∧ headerSize (List.replicate 255 (.const 128)) [0] ≤ 65535 := by decide +kernel

theorem witness_ComponentChecks :
    checkComponents referenceCaps 0 [.icm 16, .isse 19 1] = some (.modelForwardRef 1) ∧
    checkComponents referenceCaps 0 [.icm 16, .isse 19 0] = none := by decide

/-- One component of each type. -/
theorem witness_LoadLeavesResetValues :
    let bytes := modelBytes 9 [0x01, 0x80, 0x02, 0x04, 0x03, 0x03, 0x02, 0x04, 0x02, 0x00, 0x05, 0x00, 0x01, 0x80,
      0x06, 0x02, 0x00, 0x01, 0x10, 0xFF, 0x07, 0x02, 0x00, 0x06, 0x10, 0xFF, 0x08, 0x02, 0x06, 0x09, 0x02, 0x07, 0x08, 0xFF]
    let s : State := { State.reset with requests := [.load .encoding bytes] }
    s.phase = .idle ∧ s.requests = [.load .encoding bytes] ∧ ∃ x, checkHeader s.caps bytes = .ok x :=
  ⟨rfl, rfl, ⟨_, rfl⟩⟩

/-- R411, R536, R538: when component 1 fails its check, component 0 (CONST 160, `p[0] = 128`), the HCOMP instance and the
program store (`cend = 13`, 128 bytes of gap, HCOMP `38 00`) stay built. -/
theorem test_load_keeps_built :
    let t := State.reset.load .encoding [0x0D, 0, 2, 3, 0, 0, 2, 0x01, 0xA0, 0x08, 0x02, 0x01, 0, 0x38, 0]
    t.fault = some (.modelForwardRef 1) ∧ t.loaded = false ∧ t.pred.comps = [Component.init (.const 160)] ∧
    t.pred.p = [(0, 128)] ∧ (t.hcomp.mbits, t.hcomp.hbits) = (3, 2) ∧
    (t.hcomp.cend, t.hcomp.hbegin, t.hcomp.hend) = (13, 141, 143) ∧ t.hcomp.readP 141 = 0x38 := by decide

/-- The same for a parse that ends at an unknown tag (7 bytes parsed) and at a last byte that is not 0 (`hend` is found, the
byte is not stored). -/
theorem test_load_keeps_parsed :
    let t := State.reset.load .encoding [0x0A, 0, 2, 3, 0, 0, 1, 0x0A, 0, 0, 0x38, 0]
    let u := State.reset.load .encoding [0x0A, 0, 2, 3, 0, 0, 1, 0x01, 0x80, 0, 0x38, 0x39]
    t.fault = some .fmtCompTag ∧ t.hcomp.prog = [(0, 0x0A), (2, 2), (3, 3), (6, 1)] ∧ t.hcomp.cend = 0 ∧
    t.header = { hsize := 10, hh := 2, hm := 3, ph := 0, pm := 0, n := 1 } ∧
    u.fault = some .fmtHcompEnd ∧ (u.hcomp.cend, u.hcomp.hbegin, u.hcomp.hend) = (10, 138, 140) ∧
    u.hcomp.readP 138 = 0x38 ∧ u.hcomp.readP 139 = 0 := by decide

/-- R40 with three inputs and R41, worked by hand; R42 with `squash(-32) = 12371`, R428's example. -/
theorem test_reset_cells :
    (Component.init (.mix 1 0 3 16 255)).weight 5 = 21845 ∧ (Component.init (.isse 2 0)).weight 6 = 32768 ∧
    ((Component.init (.sse 2 0 8 255)).readCm 47).toNat = 12371 * 131072 + 8 := by decide +kernel

/-- R426 and R446 on a MIX of 2^33 weights whose selected row starts at 0x1FFFFFFFE: weights 65536 and 32768 on the inputs 100
and -50 give 19200 >> 8 = 75, and the row's own cells are trained. `err` is ((32767 - squash 75) * 16) >> 4. -/
theorem test_mix_wide :
    let x : CompInput := { h := 0xFFFFFFFF, c8 := 1, hmap4 := 1, p := [(0, 100), (1, -50)] }
    let r := predictMix 32 0 2 0 x { Component.init (.mix 32 0 2 16 0) with cm := [(0x1FFFFFFFE, 65536)] }
    r.2 = 75 ∧ r.1.cxt = 0xFFFFFFFE ∧ r.1.selected = 0x1FFFFFFFE ∧
    ((updateMix 0 2 16 x 75 true r.1).cm.map fun e => e.1) = [0x1FFFFFFFE, 0x1FFFFFFFF] := by decide +kernel

/-- R425 and R445 on a MIX2 of 2^33 weights whose context is 2^32: w = 65535 gives (6553500 - 50) >> 16 = 99. -/
theorem test_mix2_wide :
    let x : CompInput := { h := 0xFFFFFFFF, c8 := 1, hmap4 := 1, p := [(0, 100), (1, -50)] }
    let r := predictMix2 33 0 1 255 x { Component.init (.mix2 33 0 1 16 255) with a16 := [(0x100000000, 65535)] }
    r.2 = 99 ∧ ((updateMix2 0 1 16 x 99 false r.1).a16.map fun e => e.1) = [0x100000000] := by decide +kernel

/-- Not loaded; faulted; `step` on an encoding core; `compress` on a decoding core. -/
theorem witness_OutOfOrderIsRefused :
    State.reset.phase = .idle ∧ State.reset.loaded = false ∧
    (State.raise .fmtEof { atFlag [] with phase := .idle }).phase = .idle ∧
    (State.raise .fmtEof { atFlag [] with phase := .idle }).fault ≠ none ∧
    midByte.role = .encoding ∧ (atFlag []).role = .decoding := by decide

theorem witness_LatchClearedOnlyByLoad :
    let s : State := State.raise .fmtEof State.reset
    s.fault = some .fmtEof ∧ s.requests = [] ∧
      ({ s with requests := [.step] } : State).requests = [.step] ∧ ∀ role bytes, Request.step ≠ .load role bytes :=
  ⟨rfl, rfl, rfl, fun _ _ h => nomatch h⟩

/-- A core whose PostProcessor is in `state` and is given `sym`. -/
def writing (state : PpState) (len : BitVec 16) (cnt : Nat) (hd : Header) (sym : Symbol) : State :=
  { atFlag [] with
    pp := { state := state, len := len, cnt := cnt }, header := hd, pcomp := Zpaql.preparePcomp hd
    phase := .work (.write sym) }

/-- R76 and R513: `ph` and `pm` in the prepared store. R514: the last byte closes and creates the instance. -/
theorem test_pp_prepares : (after (writing .lenHigh 2 0 { Header.blank with ph := 3, pm := 5 } (.byte 0))).pcomp =
    { Zpaql.blank with prog := [(4, 3), (5, 5)], cend := 8, hbegin := 136, hend := 136 } := by decide
theorem test_pp_creates : (after (writing .program 2 1 { Header.blank with ph := 3, pm := 5 } (.byte 0x38))).pcomp =
    { Zpaql.blank with mbits := 5, hbits := 3, prog := [(0, 8), (4, 3), (5, 5), (137, 0x38)]
                       cend := 8, hbegin := 136, hend := 138 } := by decide
theorem test_pp_oversize : (after (writing .program 2 1 { Header.blank with ph := 33, pm := 33 } (.byte 0x38))).fault =
    some (.resPcompSize 33) := by decide
theorem test_pp_run_eos : (after (writing .running 1 1 .blank .eos)).pcomp.a = 0xFFFFFFFF ∧
    (after (writing .running 1 1 .blank .eos)).pcomp.pc = 136 ∧ (after (writing .running 1 1 .blank .eos)).inst = .pcomp := by
  decide

/-- The selector 2; a byte and EOS in PASS; the first length byte; a length of 0, of 1 and of 65535. -/
theorem witness_SelectorPassAndLength :
    (∀ state sym, (writing state 0 0 .blank sym).fault = none ∧ (writing state 0 0 .blank sym).phase = .work (.write sym) ∧
      (writing state 0 0 .blank sym).pp.state = state) ∧
    (2 : Byte) ≠ 0 ∧ (2 : Byte) ≠ 1 ∧
    ((0 : BitVec 16).toNat + 256 * (0 : Byte).toNat) % 65536 = 0 ∧
    ((1 : BitVec 16).toNat + 256 * (0 : Byte).toNat) % 65536 ≠ 0 ∧
    ((255 : BitVec 16).toNat + 256 * (255 : Byte).toNat) % 65536 ≠ 0 :=
  ⟨fun _ _ => ⟨rfl, rfl, rfl⟩, by decide, by decide, by decide, by decide, by decide⟩

/-- A byte before the last; the last with `ph` and `pm` at MAXLOG; with `ph` above it; with `pm` above it. -/
theorem witness_ProgramByteResult :
    (let s := writing .program 2 0 .blank (.byte 9)
     s.fault = none ∧ s.phase = .work (.write (.byte 9)) ∧ s.pp.state = .program ∧ s.pp.cnt + 1 ≠ s.pp.len.toNat) ∧
    (let s := writing .program 2 1 { Header.blank with ph := 32, pm := 32 } (.byte 9)
     s.pp.cnt + 1 = s.pp.len.toNat ∧ s.header.ph.toNat ≤ s.caps.maxLog ∧ s.header.pm.toNat ≤ s.caps.maxLog ∧
      2 ≤ s.pcomp.hbegin) ∧
    (let s := writing .program 2 1 { Header.blank with ph := 33 } (.byte 9)
     s.pp.cnt + 1 = s.pp.len.toNat ∧ s.caps.maxLog < s.header.ph.toNat) ∧
    (let s := writing .program 2 1 { Header.blank with ph := 32, pm := 33 } (.byte 9)
     s.pp.cnt + 1 = s.pp.len.toNat ∧ s.header.ph.toNat ≤ s.caps.maxLog ∧ s.caps.maxLog < s.header.pm.toNat) := by decide

theorem witness_RunningResult : ∀ sym, (writing .running 1 1 .blank sym).fault = none ∧
    (writing .running 1 1 .blank sym).phase = .work (.write sym) ∧ (writing .running 1 1 .blank sym).pp.state = .running :=
  fun _ => ⟨rfl, rfl, rfl⟩

end Sys2Proof.Tests
end

section
/-! Proofs about the state and its invariants: what an instruction leaves of F and R (R22, R24), the partial byte
(R31, R32, R462), the range of `p[]` (R30, R429), what a `load` leaves (R49, R560 to R565) and the fault latch (R28, R536,
R537). -/

namespace Sys2Proof.Machine

/-! ### What an instruction leaves of both instances -/

/-- An instruction that gives a next state leaves one of the four ends of `Reaches`. -/
theorem exec_next_reaches {i : Instr} {s t : State} (h : exec i s = .next t) :
    ∃ z', Reaches s z' (.next t) ∧ Keeps s.vm z' (∃ k src, i = Instr.ofCmp k src) (∃ n, i = .stA n) :=
  h ▸ exec_reaches i s

/-- However an instruction ends, its two instances are those of `s.setVm z'`. -/
theorem Reaches.hcomp_pcomp {s t : State} {z' : Zpaql} (h : Reaches s z' (.next t)) :
    t.hcomp = (s.setVm z').hcomp ∧ t.pcomp = (s.setVm z').pcomp := by
  rcases h with h | ⟨f, h⟩ | h | ⟨b, h⟩ <;> cases h <;> exact ⟨rfl, rfl⟩

/-- What `z'` shares with the executing `Zpaql`, `s.setVm z'` shares with `s` in both instances. -/
theorem State.setVm_shares {α : Type} (g : Zpaql → α) {s : State} {z' : Zpaql} (h : g z' = g s.vm) :
    g (s.setVm z').hcomp = g s.hcomp ∧ g (s.setVm z').pcomp = g s.pcomp := by
  cases hi : s.inst <;> simpa [State.setVm, State.vm, hi] using h

/-- Settles O34: F is among what every instruction but a comparison keeps of the executing `Zpaql`. -/
theorem onlyComparisonsWriteF : Obligations.OnlyComparisonsWriteF := by
  intro i s t h hcmp
  obtain ⟨z', hr, -, -, hf, -⟩ := exec_next_reaches h
  obtain ⟨hh, hp⟩ := hr.hcomp_pcomp
  rw [hh, hp]
  exact State.setVm_shares Zpaql.f (hf fun ⟨k, src, e⟩ => hcmp k src e)

/-- Settles O35: R is among what every instruction but `R=A N` keeps of the executing `Zpaql`. -/
theorem onlyStoreRegisterWritesR : Obligations.OnlyStoreRegisterWritesR := by
  intro i s t h hst k
  obtain ⟨z', hr, -, -, -, hz⟩ := exec_next_reaches h
  obtain ⟨hh, hp⟩ := hr.hcomp_pcomp
  have hread : z'.readR k = s.vm.readR k := by
    simp only [Zpaql.readR, hz fun ⟨n, e⟩ => hst n e]
  rw [hh, hp]
  exact State.setVm_shares (·.readR k) hread

/-! ### What any step does to the predictor -/

/-- The byte is with HCOMP: its `run` is in progress or has just halted, or a fault has ended it. -/
def State.ByteWithHcomp (s : State) : Prop :=
  s.fault ≠ none ∨ (s.inst = .hcomp ∧ ∃ t, s.phase = .run t ∨ s.phase = .halted t)

theorem State.partialByte_iff (s : State) :
    s.PartialByte ↔ 1 ≤ s.pred.c8.toNat ∧ (s.pred.c8.toNat < 256 → s.pred.hmap4.toNat = nibbleForm s.pred.c8.toNat) ∧
      (256 ≤ s.pred.c8.toNat → s.ByteWithHcomp) := Iff.rfl

theorem State.not_byteWithHcomp_of_work {s : State} {task : Task} (hf : s.fault = none) (hp : s.phase = .work task) :
    ¬ s.ByteWithHcomp := by
  simp [State.ByteWithHcomp, hf, hp]

theorem State.not_byteWithHcomp_of_idle {s : State} (hf : s.fault = none) (hp : s.phase = .idle) :
    ¬ s.ByteWithHcomp := by
  simp [State.ByteWithHcomp, hf, hp]

theorem State.byteWithHcomp_raise (f : CoreFault) (s : State) : (s.raise f).ByteWithHcomp := .inl (by simp)

/-- An instruction leaves the predictor alone, and a `run` of HCOMP goes on, halts or faults. -/
theorem Reaches.pred {s t : State} {z' : Zpaql} (h : Reaches s z' (.next t)) :
    t.pred = s.pred ∧ (s.ByteWithHcomp → t.ByteWithHcomp) := by
  rcases h with h | ⟨f, h⟩ | h | ⟨b, h⟩ <;> cases h
  · exact ⟨s.pred_setVm z', by simp [State.ByteWithHcomp]⟩
  · exact ⟨s.pred_setVm z', fun _ => State.byteWithHcomp_raise f _⟩
  · refine ⟨s.pred_setVm z', Or.imp (by simp) ?_⟩
    rintro ⟨hi, task, hp | hp⟩ <;> exact ⟨by simpa using hi, task, .inr (by simp [hp, Phase.afterHalt])⟩
  · exact ⟨s.pred_setVm z', by simp [State.ByteWithHcomp, State.putByte]⟩

/-- `update` trains the predictor and appends the bit; a byte that is now complete is with HCOMP. -/
theorem State.update_pred (s : State) (y : Bool) (next : Task) :
    (s.update y next).pred = (s.pred.train y).advance y ∧
      (256 ≤ (s.update y next).pred.c8.toNat → (s.update y next).ByteWithHcomp) := by
  rcases s.update_cases y next with ⟨-, e⟩ | ⟨hlt, e⟩ <;> rw [e]
  · exact ⟨rfl, fun _ => .inr ⟨rfl, next, .inl rfl⟩⟩
  · exact ⟨rfl, fun hge => absurd hlt (Nat.not_lt.mpr hge)⟩

theorem afterFlag_pred (y : Bool) (s : State) : (afterFlag y s).pred = s.pred := by
  rcases afterFlag_cases y s with ⟨-, -, e⟩ | ⟨-, -, e⟩ | ⟨-, e⟩
  · rw [e]
  · rw [e, State.pred_raise]
  · rw [e]

theorem decodeFlag_pred (s : State) : (decodeFlag s).pred = s.pred := by
  have hbit : ∀ u : State, (u.decodeBit 0 afterFlag).pred = u.pred := by
    intro u
    rcases u.decodeBit_cases 0 afterFlag with ⟨y, c, rest, -, e⟩ | e | e <;> rw [e]
    · exact afterFlag_pred ..
    · rfl
    · rfl
  rcases decodeFlag_cases s with ⟨-, e⟩ | ⟨c, rest, -, -, e⟩ | ⟨c, rest, -, -, e⟩ <;> rw [e]
  · exact hbit s
  · exact hbit _
  · rfl

/-- A part of an operation leaves the predictor alone, predicts and learns one bit, or predicts and faults. -/
theorem State.work_pred (s : State) (task : Task) :
    (s.work task).pred = s.pred ∨
    (∃ y, (s.work task).pred = (s.pred.predict.train y).advance y ∧
      (256 ≤ (s.work task).pred.c8.toNat → (s.work task).ByteWithHcomp)) ∨
    ((s.work task).pred = s.pred.predict ∧ (s.work task).ByteWithHcomp) := by
  cases task with
  | encodeFlag c => exact .inl rfl
  | encodeBits c left =>
    cases left with
    | zero => exact .inl rfl
    | succ k => exact .inr (.inl ⟨c.getLsbD k, State.update_pred ..⟩)
  | encodeEos => exact .inl rfl
  | decodeFlag => exact .inl (decodeFlag_pred s)
  | decodeBits c =>
    by_cases hc : 256 ≤ c.toNat
    · exact .inl (by simp [State.work, decodeBits, hc])
    · have hwork : s.work (.decodeBits c) = s.predict.decodeBit s.predict.dataProb fun y s =>
          s.update y (.decodeBits (c <<< 1 ||| BitVec.ofNat 9 y.toNat)) := if_neg hc
      rw [hwork]
      rcases s.predict.decodeBit_cases s.predict.dataProb _ with ⟨y, k, rest, -, e⟩ | e | e <;> rw [e]
      · exact .inr (.inl ⟨y, State.update_pred ..⟩)
      · exact .inr (.inr ⟨rfl, State.byteWithHcomp_raise ..⟩)
      · exact .inr (.inr ⟨rfl, State.byteWithHcomp_raise ..⟩)
  | write sym => exact .inl (s.ppWrite_frame sym).2.1
  | finish r => exact .inl rfl

/-- A `load` leaves the predictor of a list of descriptors: the block's, those built before a fault, or none. -/
theorem State.load_pred (s : State) (role : Role) (bytes : List Byte) :
    ∃ descs, (s.load role bytes).pred = .ofDescs descs := by
  rcases s.load_cases role bytes with ⟨x, -, e⟩ | ⟨f, -, e⟩ <;> rw [e]
  · exact ⟨x.descs, rfl⟩
  · rw [State.pred_raise]
    rcases s.builtBeforeFault_cases role bytes with ⟨e, -, he⟩ | ⟨x, f, -, -, he⟩ | ⟨x, -, -, he⟩ <;> rw [he]
    · exact ⟨[], rfl⟩
    · exact ⟨[], rfl⟩
    · exact ⟨builtComponents s.caps 0 x.descs, rfl⟩

/-- Everything a step can do to the predictor: nothing, with a byte that is with HCOMP staying there; predict and learn one
bit; predict, with a fault; begin the next byte when the `run` of HCOMP has returned; be built by a `load`. -/
theorem step_pred_cases {s t : State} (h : step s = .next t) :
    (t.pred = s.pred ∧ (s.ByteWithHcomp → t.ByteWithHcomp)) ∨
    (∃ y, ¬ s.ByteWithHcomp ∧ t.pred = (s.pred.predict.train y).advance y ∧
      (256 ≤ t.pred.c8.toNat → t.ByteWithHcomp)) ∨
    (t.pred = s.pred.predict ∧ t.ByteWithHcomp) ∨
    t.pred = s.pred.nextByte s.hcomp ∨
    ∃ descs, t.pred = .ofDescs descs := by
  rcases step_next_cases h with ⟨next, i, -, -, he⟩ | ⟨next, e, -, -, rfl⟩ | ⟨next, hf, hp, rfl⟩ |
    ⟨task, hf, hp, rfl⟩ | ⟨q, rest, -, hidle, rfl⟩ | ⟨-, rfl⟩
  · obtain ⟨z', hr, -⟩ := exec_next_reaches he
    exact .inl hr.pred
  · cases e with
    | endsAfter got => exact .inl ⟨by simp [State.raiseFetch, State.onVm_eq], fun _ => State.byteWithHcomp_raise ..⟩
  · cases hi : s.inst with
    | hcomp => exact .inr (.inr (.inr (.inl (by simp [State.returnRun, hi]))))
    | pcomp => exact .inl ⟨by simp [State.returnRun, hi], by simp [State.ByteWithHcomp, hf, hi]⟩
  · have hno := State.not_byteWithHcomp_of_work hf hp
    rcases s.work_pred task with e | ⟨y, e, hb⟩ | hfault
    · exact .inl ⟨e, fun hb => absurd hb hno⟩
    · exact .inr (.inl ⟨y, hno, e, hb⟩)
    · exact .inr (.inr (.inl hfault))
  · rcases State.serve_cases { s with requests := rest } q with ⟨role, bytes, -, e⟩ | ⟨task, hf, -, e, -⟩ | e |
      ⟨bytes, e⟩ | ⟨out, sum, e⟩ <;> rw [e]
    · exact .inr (.inr (.inr (.inr (State.load_pred ..))))
    · exact .inl ⟨rfl, fun hb => absurd hb (State.not_byteWithHcomp_of_idle hf (hidle hf))⟩
    · exact .inl ⟨rfl, id⟩
    · exact .inl ⟨rfl, id⟩
    · exact .inl ⟨rfl, id⟩
  · exact .inl ⟨rfl, id⟩

/-! ### The partial byte (R31, R32, R462) -/

/-- R462 keeps R32: the value `hmap4` gets with a bit is the nibble form of the new `c8`, for every `c8` that the bit does
not complete. -/
theorem nextHmap4_nibbleForm : ∀ c8 : Fin 128, 1 ≤ c8.val → ∀ y : Bool,
    nextHmap4 (nextC8 c8 y) (nibbleForm c8) y = nibbleForm (nextC8 c8 y) ∧ nibbleForm (nextC8 c8 y) < 512 := by
  decide

theorem Predictor.hmap4_advance {q : Predictor} {y : Bool} (h1 : 1 ≤ q.c8.toNat) (hlt : 2 * q.c8.toNat + y.toNat < 256)
    (hn : q.hmap4.toNat = nibbleForm q.c8.toNat) :
    (q.advance y).hmap4.toNat = nibbleForm (2 * q.c8.toNat + y.toNat) := by
  obtain ⟨hnext, hbound⟩ := nextHmap4_nibbleForm ⟨q.c8.toNat, by omega⟩ h1 y
  have hmap : (q.advance y).hmap4 = BitVec.ofNat 9 (nextHmap4 (nextC8 q.c8.toNat y) q.hmap4.toNat y) :=
    if_neg (Nat.not_le.mpr hlt)
  rw [hmap, hn, hnext, BitVec.toNat_ofNat, Nat.mod_eq_of_lt hbound]
  rfl

/-- Before the first bit of a byte both registers are 1 (R462, R562). -/
theorem State.partialByte_of_fresh {s : State} (hc8 : s.pred.c8 = 1) (hmap : s.pred.hmap4 = 1) : s.PartialByte := by
  rw [State.partialByte_iff, hc8, hmap]
  exact ⟨by decide, fun _ => by decide, fun hge => absurd hge (by decide)⟩

/-- Settles O39, by what a step can do to the predictor: a bit is learned only while `c8` is below 256. -/
theorem partialByteKept : Obligations.PartialByteKept := by
  intro s t hs h
  obtain ⟨hpos, hnib, hbyte⟩ := s.partialByte_iff.mp hs
  rw [State.partialByte_iff]
  rcases step_pred_cases h with ⟨e, hb⟩ | ⟨y, hno, e, hb⟩ | ⟨e, hb⟩ | e | ⟨descs, e⟩
  · rw [e]
    exact ⟨hpos, hnib, fun hge => hb (hbyte hge)⟩
  · have hlt : s.pred.c8.toNat < 256 := Nat.lt_of_not_le fun hge => hno (hbyte hge)
    have hc8 : t.pred.c8.toNat = 2 * s.pred.c8.toNat + y.toNat := by
      rw [e]; exact Predictor.c8_advance _ y (by simpa using hlt)
    refine ⟨by omega, fun hlt' => ?_, hb⟩
    rw [hc8, e]
    exact Predictor.hmap4_advance (q := s.pred.predict.train y) (by simpa using hpos) (hc8 ▸ hlt')
      (by simpa using hnib hlt)
  · rw [e]
    exact ⟨hpos, hnib, fun _ => hb⟩
  · exact State.partialByte_of_fresh (by rw [e]; rfl) (by rw [e]; rfl)
  · exact State.partialByte_of_fresh (by rw [e]; rfl) (by rw [e]; rfl)

/-! ### The range of `p[]` (R30, R429) -/

/-- `v` is a value that R30 allows for `p[i]`. -/
def OutputInRange (v : Int) : Prop := -2048 ≤ v ∧ v ≤ 2047

theorem Predictor.outputsInRange_iff (q : Predictor) : q.OutputsInRange ↔ ∀ i, OutputInRange (pAt q.p i) := Iff.rfl

theorem outputInRange_zero : OutputInRange 0 := ⟨by decide, by decide⟩

/-- There are 1420 thresholds, so `stretch` is at most 710. -/
theorem stretch_bounds (p : Nat) : -710 ≤ stretch p ∧ stretch p ≤ 710 := by
  have hrow : (stretchRows.map (thresholdsUpTo p)).sum ≤ (stretchRows.map List.length).sum :=
    List.sum_le_sum fun row _ => List.countP_le_length
  have hall : (stretchRows.map List.length).sum = 1420 := by decide +kernel
  unfold stretch
  omega

theorem outputInRange_stretch (p : Nat) : OutputInRange (stretch p) := by
  obtain ⟨hlo, hhi⟩ := stretch_bounds p
  exact ⟨by omega, by omega⟩

theorem outputInRange_clamp2k (v : Int) : OutputInRange (clamp2k v) := by
  unfold OutputInRange clamp2k clamp
  split_ifs <;> omega

/-- A mean of two outputs whose weights sum to `2^k` is again in their range. -/
theorem outputInRange_mean {u v w : Int} {k : Nat} (hu : OutputInRange u) (hv : OutputInRange v) (h0 : 0 ≤ w)
    (hk : w ≤ 2 ^ k) : OutputInRange (floorShift (u * w + v * (2 ^ k - w)) k) := by
  obtain ⟨hu1, hu2⟩ := hu
  obtain ⟨hv1, hv2⟩ := hv
  have hpos : (0 : Int) < 2 ^ k := by positivity
  have hc : 0 ≤ 2 ^ k - w := by omega
  constructor
  · rw [floorShift, Int.le_ediv_iff_mul_le hpos]
    nlinarith
  · rw [floorShift, ← Int.lt_add_one_iff, Int.ediv_lt_iff_lt_mul hpos]
    nlinarith

/-- Every component type gives an output in range from inputs in range (R420 to R428). -/
theorem outputInRange_predictOne {x : CompInput} (hx : ∀ j, OutputInRange (pAt x.p j)) {k : Component} {v : Int}
    (h : (predictOne x k).2 = some v) : OutputInRange v := by
  unfold predictOne at h
  cases hd : k.desc <;> simp only [hd, Option.some.injEq] at h
  case const c => cases h
  all_goals subst h
  case cm s l => exact outputInRange_stretch _
  case icm s => exact outputInRange_stretch _
  case matchModel s b =>
    unfold predictMatch
    split
    · exact outputInRange_zero
    · exact outputInRange_stretch _
  case avg j l wt =>
    have := wt.isLt
    exact outputInRange_mean (k := 8) (hx _) (hx _) (by omega) (by omega)
  case mix2 s j l rate mask =>
    have hw := ((k.select (mixContext s mask x)).readA16 (k.select (mixContext s mask x)).selected).isLt
    have hmean := outputInRange_mean (k := 16) (hx j.toNat) (hx l.toNat) (Int.natCast_nonneg _)
      (by exact_mod_cast Nat.le_of_lt hw)
    show OutputInRange (floorShift (_ * _ + _ * _) 16)
    rw [mul_comm, mul_comm (_ - _)]
    exact hmean
  case mix s j m rate mask => exact outputInRange_clamp2k _
  case isse s j => exact outputInRange_clamp2k _
  case sse s j start limit => exact outputInRange_stretch _

theorem outputInRange_poke {p : List (Nat × Int)} (hp : ∀ j, OutputInRange (pAt p j)) (i : Nat) {v : Int}
    (hv : OutputInRange v) (j : Nat) : OutputInRange (pAt (poke 0 p i v) j) := by
  unfold pAt
  rw [peek_poke]
  split
  · exact hv
  · exact hp j

theorem outputInRange_predictFrom (h : List (Nat × Word)) (c8 hmap4 i : Nat) (ks : List Component)
    {p : List (Nat × Int)} (hp : ∀ j, OutputInRange (pAt p j)) (j : Nat) :
    OutputInRange (pAt (predictFrom h c8 hmap4 i ks p).2 j) := by
  induction ks generalizing i p with
  | nil => exact hp j
  | cons k ks ih =>
    refine ih (i + 1) ?_
    cases hv : (predictOne { h := peek 0 h i, c8 := c8, hmap4 := hmap4, p := p } k).2 with
    | none => exact hp
    | some v => exact outputInRange_poke hp i (outputInRange_predictOne hp hv)

theorem Predictor.outputsInRange_predict {q : Predictor} (h : q.OutputsInRange) : q.predict.OutputsInRange :=
  fun i => outputInRange_predictFrom q.h q.c8.toNat q.hmap4.toNat 0 q.comps h i

/-- `p[]` of a predictor just loaded: `(c - 128) * 4` for CONST, 0 for every other component (R34, R562). -/
theorem Predictor.pAt_ofDescs (descs : List CompDesc) (i : Nat) :
    pAt (Predictor.ofDescs descs).p i = match descs[i]? with
      | some (.const c) => ((c.toNat : Int) - 128) * 4
      | _ => 0 :=
  (pAt_constOutputs 0 descs [] i).trans (if_neg (Nat.not_lt_zero i))

/-- A CONST's output is in range for every byte (R34). -/
theorem outputInRange_const {n : Nat} (h : n < 256) : OutputInRange (((n : Int) - 128) * 4) :=
  ⟨by omega, by omega⟩

theorem Predictor.outputsInRange_ofDescs (descs : List CompDesc) : (Predictor.ofDescs descs).OutputsInRange := by
  intro i
  rw [Predictor.pAt_ofDescs]
  split
  · next c _ => exact outputInRange_const c.isLt
  · exact outputInRange_zero

/-- Settles O42: `predict` and `load` alone write `p[]`. -/
theorem outputsInRangeKept : Obligations.OutputsInRangeKept := by
  intro s t hs h
  rcases step_pred_cases h with ⟨e, -⟩ | ⟨y, -, e, -⟩ | ⟨e, -⟩ | e | ⟨descs, e⟩ <;> rw [e]
  · exact hs
  · exact Predictor.outputsInRange_predict hs
  · exact Predictor.outputsInRange_predict hs
  · exact hs
  · exact Predictor.outputsInRange_ofDescs descs

/-! ### A component at reset (R34 to R42) -/

/-- A cell of `cm` of a component at reset. -/
theorem Component.readCm_init {d : CompDesc} {j : Nat} (h : j < cmLength d) :
    (Component.init d).readCm j = cmReset d j := by
  unfold Component.readCm
  rw [show cmLength (Component.init d).desc = cmLength d from rfl, Nat.mod_eq_of_lt h]
  rfl

/-- `cminit(s)` has 23 bits. -/
theorem cminit_lt (s : Nat) : cminit s < 2 ^ 23 := by
  unfold cminit
  rw [Nat.div_lt_iff_lt_mul (by omega)]
  omega

theorem squashRows_le : ∀ row ∈ squashRows, ∀ v ∈ row, v ≤ 32767 := by decide +kernel

theorem getD_le_of_forall {l : List Nat} {b : Nat} (h : ∀ v ∈ l, v ≤ b) (i : Nat) : l.getD i 0 ≤ b := by
  rw [List.getD_eq_getElem?_getD]
  cases hv : l[i]? with
  | none => exact Nat.zero_le b
  | some v => exact h v (List.mem_of_getElem? hv)

theorem squash_le (x : Int) : squash x ≤ 32767 := by
  unfold squash
  split_ifs
  · omega
  · omega
  · refine getD_le_of_forall (fun v hv => ?_) _
    rw [List.getD_eq_getElem?_getD] at hv
    cases hrow : squashRows[(x + 665).toNat / 11]? with
    | none => simp [hrow] at hv
    | some row => exact squashRows_le row (List.mem_of_getElem? hrow) v (by simpa [hrow] using hv)

/-- A cell of an SSE at reset does not wrap (R42). -/
theorem toNat_sseCell (start : Byte) (j : Nat) :
    (sseCell start j).toNat = squash (((j % 32 : Nat) : Int) * 64 - 992) * 131072 + start.toNat := by
  have hs := squash_le (((j % 32 : Nat) : Int) * 64 - 992)
  have hb := start.isLt
  rw [sseCell, BitVec.toNat_ofNat]
  exact Nat.mod_eq_of_lt (by omega)

/-- A trained weight is a 20-bit number, which its cell holds exactly (R41, R386). -/
theorem toInt_weightCell (v : Int) : (u32 (clamp512k v)).toInt = clamp v (-524288) 524287 := by
  have hlo : -524288 ≤ clamp v (-524288) 524287 := by unfold clamp; split_ifs <;> omega
  have hhi : clamp v (-524288) 524287 ≤ 524287 := by unfold clamp; split_ifs <;> omega
  rw [u32, clamp512k, BitVec.toInt_ofInt]
  exact Int.bmod_eq_of_le (by omega) (by omega)

theorem toInt_isseBias (s : Nat) :
    (isseBias s).toInt = clamp (stretch (cminit s / 256) * 1024) (-524288) 524287 := by
  rw [isseBias, toInt_weightCell, Nat.shiftRight_eq_div_pow]

/-- The reset value of a MIX weight, `floor(65536 / m)`, is small enough to be its own signed value (R40). -/
theorem toInt_mixReset (m : Nat) : (BitVec.ofNat 32 (65536 / m)).toInt = 65536 / (m : Int) := by
  have hle : 65536 / m ≤ 65536 := Nat.div_le_self ..
  have hval : (BitVec.ofNat 32 (65536 / m)).toNat = 65536 / m :=
    (BitVec.toNat_ofNat ..).trans (Nat.mod_eq_of_lt (by omega))
  rw [BitVec.toInt_eq_toNat_of_lt (by omega), hval]
  exact Int.natCast_div ..

theorem Component.fieldsAtReset_init (d : CompDesc) : (Component.init d).FieldsAtReset :=
  ⟨rfl, rfl, rfl, rfl, by cases d <;> rfl, by cases d <;> rfl⟩

theorem Component.tablesAtReset_init (d : CompDesc) : (Component.init d).TablesAtReset := by
  cases d with
  | const c => trivial
  | cm s limit => exact fun j hj => Component.readCm_init hj
  | icm s =>
    refine ⟨fun _ _ => rfl, fun st hst => ?_⟩
    have := cminit_lt st
    rw [Component.readCm_init hst]
    exact (BitVec.toNat_ofNat ..).trans (Nat.mod_eq_of_lt (by omega))
  | matchModel s b => exact ⟨fun _ _ => rfl, fun j hj => Component.readCm_init hj⟩
  | avg j k wt => trivial
  | mix2 s j k rate mask => exact fun _ _ => rfl
  | mix s j m rate mask =>
    intro i hi
    rw [Component.weight, Component.readCm_init hi]
    exact toInt_mixReset m.toNat
  | isse s j =>
    refine ⟨fun _ _ => rfl, fun st hst => ⟨?_, ?_⟩⟩
    · rw [Component.weight, Component.readCm_init (show 2 * st < 512 by omega), cmReset, if_pos (by omega)]
      decide
    · rw [Component.weight, Component.readCm_init (show 2 * st + 1 < 512 by omega), cmReset, if_neg (by omega),
        show (2 * st + 1) / 2 = st by omega]
      exact toInt_isseBias st
  | sse s j start limit =>
    intro i hi
    rw [Component.readCm_init hi]
    exact toNat_sseCell start i

/-! ### What a `load` leaves (R49, R73, R560 to R565) -/

theorem Zpaql.allZero_ofHeader (x : ParsedHeader) : (Zpaql.ofHeader x).AllZero :=
  ⟨rfl, rfl, rfl, rfl, rfl, rfl, fun _ => rfl, fun _ => rfl, fun _ => rfl⟩

theorem Zpaql.allZero_blank : Zpaql.blank.AllZero :=
  ⟨rfl, rfl, rfl, rfl, rfl, rfl, fun _ => rfl, fun _ => rfl, fun _ => rfl⟩

/-- The program store of R73: the COMP section, the guard gap of 128 zeros, the HCOMP section, and zeros beyond. -/
theorem peek_programStore (comp hcomp : List Byte) (j : Nat) :
    peek 0#8 (programStore comp hcomp) j = (comp ++ List.replicate 128 0 ++ hcomp).getD j 0 := by
  unfold programStore
  rw [peek_pokeBytes, peek_pokeBytes, List.getD_eq_getElem?_getD, peek_nil]
  have hlen : (comp ++ List.replicate 128 (0 : Byte)).length = comp.length + guardGap := by simp [guardGap]
  by_cases hcode : comp.length + guardGap ≤ j
  · rw [List.getElem?_append_right (hlen ▸ hcode), hlen, if_neg (show ¬ (0 ≤ j ∧ j < 0 + comp.length) by omega)]
    by_cases hend : j < comp.length + guardGap + hcomp.length
    · rw [if_pos ⟨hcode, hend⟩]
      rfl
    · rw [if_neg (fun h => hend h.2), List.getElem?_eq_none (by omega)]
      rfl
  · rw [if_neg (fun h => hcode h.1), List.getElem?_append_left (hlen ▸ Nat.lt_of_not_le hcode)]
    by_cases hcomp : j < comp.length
    · rw [if_pos (by omega), List.getElem?_append_left hcomp]
      rfl
    · rw [if_neg (by omega), List.getElem?_append_right (by omega),
        List.getElem?_replicate_of_lt (by simp only [guardGap] at hcode; omega)]
      rfl

theorem Predictor.desc_ofDescs (descs : List CompDesc) : (Predictor.ofDescs descs).comps.map (·.desc) = descs := by
  show (descs.map Component.init).map (·.desc) = descs
  rw [List.map_map]
  exact List.map_id descs

theorem Predictor.comps_ofDescs_atReset (descs : List CompDesc) :
    ∀ k ∈ (Predictor.ofDescs descs).comps, k.FieldsAtReset ∧ k.TablesAtReset := by
  intro k hk
  obtain ⟨d, -, rfl⟩ := List.mem_map.mp (show k ∈ descs.map Component.init from hk)
  exact ⟨Component.fieldsAtReset_init d, Component.tablesAtReset_init d⟩

/-- A faulted core takes the next request, whatever its phase. -/
theorem step_request_faulted {s : State} {f : CoreFault} {q : Request} {rest : List Request} (hf : s.fault = some f)
    (hr : s.requests = q :: rest) : step s = .next ({ s with requests := rest }.serve q) := by
  rw [step_faulted hf]
  simp only [stuck, State.takeRequest, hr]

/-- A core with no operation in progress takes the next request, whether its latch is set or not. -/
theorem step_request_idle {s : State} {q : Request} {rest : List Request} (hp : s.phase = .idle)
    (hr : s.requests = q :: rest) : step s = .next ({ s with requests := rest }.serve q) := by
  rcases Option.eq_none_or_eq_some s.fault with hf | ⟨f, hf⟩
  · rw [step_idle hf hp]
    simp only [State.takeRequest, hr, Option.getD_some]
  · exact step_request_faulted hf hr

/-- A `load` whose checks pass leaves the block's state. -/
theorem step_load_ok {s : State} {role : Role} {bytes : List Byte} {rest : List Request} {x : ParsedHeader}
    (hp : s.phase = .idle) (hr : s.requests = .load role bytes :: rest) (hx : checkHeader s.caps bytes = .ok x) :
    step s = .next ({ s with requests := rest }.install role x) := by
  rw [step_request_idle hp hr]
  simp only [State.serve, State.load, hx]

/-- Settles O55: the state that `install` builds, field by field. -/
theorem loadLeavesResetValues : Obligations.LoadLeavesResetValues := by
  intro s role bytes rest x hp hr hx
  obtain ⟨-, -, -, hbytes⟩ := parseHeader_ok (checkHeader_ok hx).1
  refine ⟨_, step_load_ok hp hr hx, rfl, rfl, rfl, rfl, rfl, Zpaql.allZero_ofHeader x, rfl, rfl, hbytes, rfl, rfl, rfl,
    peek_programStore x.comp x.hcomp, Zpaql.allZero_blank, rfl, rfl, fun _ => rfl, rfl, rfl, rfl, rfl, rfl, fun _ => rfl,
    Predictor.pAt_ofDescs x.descs, Predictor.desc_ofDescs x.descs, Predictor.comps_ofDescs_atReset x.descs,
    rfl, rfl, rfl, rfl, rfl, rfl, rfl, rfl, rfl, rfl, rfl, rfl, rfl, rfl, rfl⟩

/-! ### The state after reset, and the latch -/

theorem Zpaql.memoryForm_blank : Zpaql.blank.MemoryForm :=
  ⟨memWf_nil .., memWf_nil .., memWf_nil .., .nil, nofun⟩

/-- Settles O43: every memory is empty, `c8 = hmap4 = 1`, the range is `1 .. 0xFFFFFFFF`, nothing is loaded or faulted. -/
theorem resetHasInvariants : Obligations.ResetHasInvariants := by
  refine ⟨⟨Zpaql.memoryForm_blank, Zpaql.memoryForm_blank, Predictor.memoryForm_ofDescs (ds := []) (by decide)⟩,
    ⟨by decide, by decide, by decide⟩, ⟨by decide, by decide, fun h => absurd h (by decide)⟩, ⟨nofun, ?_⟩,
    fun h => absurd rfl h, Predictor.outputsInRange_ofDescs []⟩
  rintro (h | h) <;> cases h

/-- A faulted core serves a request other than a `load` on the host's side alone: it starts no operation (R504). -/
theorem State.serve_faulted {s : State} {f : CoreFault} {q : Request} (hf : s.fault = some f)
    (hq : ∀ role bytes, q ≠ .load role bytes) :
    s.serve q = { s with reports := (s.serve q).reports, reader := (s.serve q).reader,
                         outSink := (s.serve q).outSink, sumSink := (s.serve q).sumSink } := by
  rcases s.serve_cases q with ⟨role, bytes, e, -⟩ | ⟨task, hnone, -⟩ | e | ⟨bytes, e⟩ | ⟨out, sum, e⟩
  · exact absurd e (hq role bytes)
  · rw [hf] at hnone
    cases hnone
  all_goals rw [e]

/-- Settles O57: with a request the step serves it, and a faulted core serves all but a `load` on the host's side. -/
theorem latchClearedOnlyByLoad : Obligations.LatchClearedOnlyByLoad := by
  refine ⟨rfl, fun s f hf => ⟨fun hr => ?_, fun q rest hr hq => ?_⟩⟩
  · rw [step_faulted hf]
    simp only [stuck, State.takeRequest, hr]
  · exact ⟨_, step_request_faulted hf hr, State.serve_faulted (s := { s with requests := rest }) hf hq⟩

end Sys2Proof.Machine
end

section
/-! Proofs about the memories and the program stores: a fetch outside the program (R77, R172), the PostProcessor's `write`
in states 0 to 4 (R511 to R514), the canonical form of every memory (R24 to R26, R30, R33, R70) and the guard gap (R73, R76)
along every step, and the parse of a laid-out header (R73, R74). -/

namespace Sys2Proof.Machine

/-! ### The instances along a step -/

/-- `z'` has its program at the same place as `z`, and the canonical form if `z` had it. `hend` is not named: the
PostProcessor's last program byte sets it (R514). -/
def Zpaql.Continues (z z' : Zpaql) : Prop :=
  z'.cend = z.cend ∧ z'.hbegin = z.hbegin ∧ (z.MemoryForm → z'.MemoryForm)

theorem Zpaql.continues_refl (z : Zpaql) : z.Continues z := ⟨rfl, rfl, id⟩

/-- What an instruction keeps of its `Zpaql` includes this. -/
theorem Keeps.continues {z z' : Zpaql} {cmp st : Prop} (h : Keeps z z' cmp st) : z.Continues z' := by
  obtain ⟨⟨-, -, -, hcend, hbegin, -⟩, hform, -⟩ := h
  exact ⟨hcend, hbegin, hform⟩

theorem Zpaql.continues_storeProgram (z : Zpaql) (cnt : Nat) (c : Byte) : z.Continues (z.storeProgram cnt c) := by
  refine ⟨rfl, rfl, ?_⟩
  rintro ⟨hr, hm, hh, hprog⟩
  exact ⟨hr, hm, hh, pairwise_poke hprog _ c⟩

/-- The PCOMP `Zpaql` created has the program of the store it is made from, and empty memories. -/
theorem Zpaql.continues_createPcomp (z : Zpaql) (len : Nat) (hd : Header) :
    z.Continues ((z.closeProgram len).createPcomp hd) := by
  refine ⟨rfl, rfl, ?_⟩
  rintro ⟨-, -, -, hprog⟩
  exact ⟨memWf_nil .., memWf_nil .., memWf_nil .., pairwise_pokeBytes hprog _ _⟩

theorem Zpaql.Continues.trans {z z' z'' : Zpaql} (h : z.Continues z') (h' : z'.Continues z'') : z.Continues z'' := by
  obtain ⟨hcend, hbegin, hform⟩ := h
  obtain ⟨hcend', hbegin', hform'⟩ := h'
  exact ⟨hcend'.trans hcend, hbegin'.trans hbegin, hform' ∘ hform⟩

/-- With R, M and H empty, only the program store has a form to keep, whatever the sizes and bounds. -/
theorem Zpaql.memoryForm_of_store {z : Zpaql} (hr : z.r = []) (hm : z.m = []) (hh : z.h = [])
    (hprog : z.prog.Pairwise (fun x y => x.1 < y.1) ∧ ∀ e ∈ z.prog, e.2 ≠ 0#8) : z.MemoryForm := by
  unfold Zpaql.MemoryForm
  rw [hr, hm, hh]
  exact ⟨memWf_nil .., memWf_nil .., memWf_nil .., hprog⟩

theorem Zpaql.memoryForm_preparePcomp (hd : Header) : (Zpaql.preparePcomp hd).MemoryForm :=
  memoryForm_of_store rfl rfl rfl (pairwise_pokeBytes ⟨.nil, nofun⟩ _ _)

/-- The PostProcessor has a program store P': its state is 4 or 5 (R76, R513). -/
def PostProc.HasStore (pp : PostProc) : Prop := pp.state = .program ∨ pp.state = .running

/-- What every step but a `load` keeps of the program stores and of the memories: HCOMP's program stays; PCOMP's store is
prepared anew or stays; the predictor keeps its canonical form. -/
structure State.Continues (s t : State) : Prop where
  loaded : t.loaded = s.loaded
  hcomp : s.hcomp.Continues t.hcomp
  hend : t.hcomp.hend = s.hcomp.hend
  pcomp : t.pcomp = .preparePcomp s.header ∨ s.pcomp.Continues t.pcomp ∧ (t.pp.HasStore → s.pp.HasStore)
  pred : s.pred.MemoryForm → t.pred.MemoryForm

/-- `t` is as `s` in the program stores, the memories and the PostProcessor; HCOMP may have another A and PC. -/
def State.SameStores (s t : State) : Prop :=
  t.loaded = s.loaded ∧ (∃ a pc, t.hcomp = { s.hcomp with a := a, pc := pc }) ∧ t.pcomp = s.pcomp ∧ t.pp = s.pp

theorem State.sameStores_of_eq {s t : State} (hl : t.loaded = s.loaded) (hh : t.hcomp = s.hcomp)
    (hp : t.pcomp = s.pcomp) (hpp : t.pp = s.pp) : s.SameStores t := ⟨hl, ⟨_, _, hh⟩, hp, hpp⟩

theorem State.SameStores.continues {s t : State} (h : s.SameStores t)
    (hpred : s.pred.MemoryForm → t.pred.MemoryForm) : s.Continues t := by
  obtain ⟨hl, ⟨a, pc, hh⟩, hp, hpp⟩ := h
  refine ⟨hl, ?_, ?_, .inr ⟨?_, ?_⟩, hpred⟩
  · rw [hh]; exact ⟨rfl, rfl, id⟩
  · rw [hh]
  · rw [hp]; exact s.pcomp.continues_refl
  · rw [hpp]; exact id

/-- A change of the executing `Zpaql` is a change of one of the two, the other stays. -/
theorem State.continues_setVm {s : State} {z' : Zpaql} (h : s.vm.Continues z') :
    s.hcomp.Continues (s.setVm z').hcomp ∧ s.pcomp.Continues (s.setVm z').pcomp := by
  rw [State.hcomp_setVm, State.pcomp_setVm]
  cases hi : s.inst
  · exact ⟨by simpa [State.vm, hi] using h, by simpa using s.pcomp.continues_refl⟩
  · exact ⟨by simpa using s.hcomp.continues_refl, by simpa [State.vm, hi] using h⟩

/-- A step that changes the executing `Zpaql`, and else nothing of what `State.Continues` names. -/
theorem State.continues_of_setVm {s t : State} {z' : Zpaql} (hz : s.vm.Continues z') (hend : z'.hend = s.vm.hend)
    (ht : (s.setVm z').SameStores t) (hpred : t.pred = s.pred) : s.Continues t := by
  obtain ⟨hh, hp⟩ := State.continues_setVm hz
  obtain ⟨hl', ⟨a, pc, hh'⟩, hp', hpp'⟩ := ht
  refine ⟨by rw [hl', State.loaded_setVm], ?_, ?_, .inr ⟨by rw [hp']; exact hp, ?_⟩, by rw [hpred]; exact id⟩
  · rw [hh']; exact hh
  · rw [hh']; exact (State.setVm_shares Zpaql.hend hend).1
  · rw [hpp', State.pp_setVm]; exact id

/-- However an instruction ends, `s.setVm z'` has the stores. -/
theorem Reaches.sameStores {s t : State} {z' : Zpaql} (h : Reaches s z' (.next t)) : (s.setVm z').SameStores t := by
  rcases h with h | ⟨f, h⟩ | h | ⟨b, h⟩ <;> cases h <;> exact State.sameStores_of_eq rfl rfl rfl rfl

theorem State.continues_exec {s t : State} {i : Instr} (h : exec i s = .next t) : s.Continues t := by
  obtain ⟨z', hr, hk⟩ := exec_next_reaches h
  obtain ⟨-, -, -, -, -, hend⟩ := hk.1
  exact State.continues_of_setVm hk.continues hend hr.sameStores hr.pred.1

theorem State.continues_raiseFetch (s : State) (e : DecodeError) : s.Continues (s.raiseFetch e) := by
  cases e with
  | endsAfter got =>
    exact State.continues_of_setVm (z' := s.vm.advance got) ⟨rfl, rfl, id⟩ rfl
      (State.sameStores_of_eq rfl rfl rfl rfl) (s.pred_setVm _)

theorem State.continues_returnRun (s : State) (next : Task) : s.Continues (s.returnRun next) := by
  cases hi : s.inst with
  | hcomp =>
    simp only [State.returnRun, hi]
    exact State.SameStores.continues (State.sameStores_of_eq rfl rfl rfl rfl) fun hq =>
      Predictor.memoryForm_nextByte hq s.hcomp
  | pcomp =>
    simp only [State.returnRun, hi]
    exact State.SameStores.continues (State.sameStores_of_eq rfl rfl rfl rfl) id

/-! ### A part of another operation -/

theorem State.update_sameStores (s : State) (y : Bool) (next : Task) : s.SameStores (s.update y next) := by
  rcases s.update_cases y next with ⟨-, e⟩ | ⟨-, e⟩ <;> rw [e]
  · exact ⟨rfl, ⟨_, _, rfl⟩, rfl, rfl⟩
  · exact State.sameStores_of_eq rfl rfl rfl rfl

theorem afterFlag_sameStores (y : Bool) (s : State) : s.SameStores (afterFlag y s) := by
  rcases afterFlag_cases y s with ⟨-, -, e⟩ | ⟨-, -, e⟩ | ⟨-, e⟩ <;> rw [e] <;>
    exact State.sameStores_of_eq rfl rfl rfl rfl

/-- A `decode` reaches no store but through what follows it. -/
theorem State.decodeBit_sameStores (s : State) (p : Nat) {k : Bool → State → State}
    (hk : ∀ (y : Bool) (u : State), u.SameStores (k y u)) : s.SameStores (s.decodeBit p k) := by
  rcases s.decodeBit_cases p k with ⟨y, c, rest, -, e⟩ | e | e <;> rw [e]
  · exact hk y { s with coder := c, reader := rest }
  · exact State.sameStores_of_eq rfl rfl rfl rfl
  · exact State.sameStores_of_eq rfl rfl rfl rfl

theorem decodeFlag_sameStores (s : State) : s.SameStores (decodeFlag s) := by
  rcases decodeFlag_cases s with ⟨-, e⟩ | ⟨c, rest, -, -, e⟩ | ⟨c, rest, -, -, e⟩ <;> rw [e]
  · exact s.decodeBit_sameStores 0 afterFlag_sameStores
  · exact State.decodeBit_sameStores { s with coder := c, reader := rest } 0 afterFlag_sameStores
  · exact State.sameStores_of_eq rfl rfl rfl rfl

theorem decodeBits_sameStores (v : BitVec 9) (s : State) : s.SameStores (decodeBits v s) := by
  unfold decodeBits
  split
  · exact State.sameStores_of_eq rfl rfl rfl rfl
  · exact State.decodeBit_sameStores s.predict _ fun y u => u.update_sameStores y _

/-- Every part of an operation but a `write` leaves the stores. -/
theorem State.work_sameStores (s : State) {task : Task} (h : ∀ sym, task ≠ .write sym) : s.SameStores (s.work task) := by
  cases task with
  | encodeFlag c => exact State.sameStores_of_eq rfl rfl rfl rfl
  | encodeBits c left =>
    cases left with
    | zero => exact State.sameStores_of_eq rfl rfl rfl rfl
    | succ k => exact State.update_sameStores (s.predict.encodeBit (c.getLsbD k) s.predict.dataProb) _ _
  | encodeEos => exact State.sameStores_of_eq rfl rfl rfl rfl
  | decodeFlag => exact decodeFlag_sameStores s
  | decodeBits v => exact decodeBits_sameStores v s
  | write sym => exact absurd rfl (h sym)
  | finish r => exact State.sameStores_of_eq rfl rfl rfl rfl

/-- A part of an operation keeps the canonical form of the predictor. -/
theorem State.memoryForm_pred_work (s : State) (task : Task) (h : s.pred.MemoryForm) : (s.work task).pred.MemoryForm := by
  rcases s.work_pred task with e | ⟨y, e, -⟩ | ⟨e, -⟩ <;> rw [e]
  · exact h
  · exact Predictor.memoryForm_train (Predictor.memoryForm_predict h) y
  · exact Predictor.memoryForm_predict h

/-! ### The PostProcessor's `write`, state by state (R511 to R514) -/

theorem step_write {s : State} {sym : Symbol} (hf : s.fault = none) (hp : s.phase = .work (.write sym)) :
    step s = .next (s.ppWrite sym) := step_work hf hp

theorem State.ppWrite_init {s : State} (h : s.pp.state = .init) (sym : Symbol) : s.ppWrite sym = writeInit s sym := by
  simp only [State.ppWrite, h]

theorem State.ppWrite_pass {s : State} (h : s.pp.state = .pass) (sym : Symbol) : s.ppWrite sym = writePass s sym := by
  simp only [State.ppWrite, h]

theorem State.ppWrite_lenLow {s : State} (h : s.pp.state = .lenLow) (sym : Symbol) :
    s.ppWrite sym = writeLenLow s sym := by
  simp only [State.ppWrite, h]

theorem State.ppWrite_lenHigh {s : State} (h : s.pp.state = .lenHigh) (sym : Symbol) :
    s.ppWrite sym = writeLenHigh s sym := by
  simp only [State.ppWrite, h]

theorem State.ppWrite_program {s : State} (h : s.pp.state = .program) (sym : Symbol) :
    s.ppWrite sym = writeProgram s sym := by
  simp only [State.ppWrite, h]

theorem State.ppWrite_running {s : State} (h : s.pp.state = .running) (sym : Symbol) :
    s.ppWrite sym = writeRunning s sym := by
  simp only [State.ppWrite, h]

/-- The two length bytes, the low one in `len` already, as a number (R513). -/
theorem lenHigh_eq (len : BitVec 16) (c : Byte) : len + c.setWidth 16 * 256 = BitVec.ofNat 16 (len.toNat + 256 * c.toNat) := by
  apply BitVec.eq_of_toNat_eq
  have h256 : (256 : BitVec 16).toNat = 256 := rfl
  simp only [BitVec.toNat_add, BitVec.toNat_mul, BitVec.toNat_setWidth, BitVec.toNat_ofNat, h256]
  omega

theorem writeLenHigh_empty {s : State} {c : Byte} (h : (s.pp.len.toNat + 256 * c.toNat) % 65536 = 0) :
    writeLenHigh s (.byte c) = s.raise .fmtPpEmpty := by
  have hlen : BitVec.ofNat 16 (s.pp.len.toNat + 256 * c.toNat) = 0 := BitVec.eq_of_toNat_eq (by simpa using h)
  simp only [writeLenHigh, lenHigh_eq, hlen, if_true]

theorem writeLenHigh_prepare {s : State} {c : Byte} (h : (s.pp.len.toNat + 256 * c.toNat) % 65536 ≠ 0) :
    writeLenHigh s (.byte c) = State.wrote
      { s with pp := { state := .program, len := BitVec.ofNat 16 (s.pp.len.toNat + 256 * c.toNat), cnt := 0 }
               pcomp := .preparePcomp s.header } (.byte c) := by
  have hlen : BitVec.ofNat 16 (s.pp.len.toNat + 256 * c.toNat) ≠ 0 := fun e =>
    h (by simpa using congrArg BitVec.toNat e)
  simp only [writeLenHigh, lenHigh_eq, if_neg hlen]

/-- The prepared store reads `ph` and `pm` at 4 and 5 and 0 elsewhere (R76). -/
theorem Zpaql.readP_preparePcomp (hd : Header) (j : Nat) :
    (Zpaql.preparePcomp hd).readP j = if j = 4 then hd.ph else if j = 5 then hd.pm else 0 := by
  refine (peek_pokeBytes [] [hd.ph, hd.pm] 4 j).trans ?_
  by_cases h4 : j = 4
  · simp [h4]
  · by_cases h5 : j = 5
    · simp [h5]
    · rw [if_neg (by simp only [List.length_cons, List.length_nil]; omega), if_neg h4, if_neg h5]
      rfl

theorem Zpaql.readP_storeProgram (z : Zpaql) (cnt : Nat) (c : Byte) (j : Nat) :
    (z.storeProgram cnt c).readP j = if j = z.hbegin + cnt then c else z.readP j :=
  peek_poke 0#8 z.prog _ c j

/-- The completed store: `hsize'` in its first two bytes, the rest as it was (R76, R514). -/
theorem Zpaql.readP_closeProgram (z : Zpaql) (len j : Nat) :
    (z.closeProgram len).readP j =
      if j = 0 then BitVec.ofNat 8 (len + 6) else if j = 1 then BitVec.ofNat 8 ((len + 6) / 256) else z.readP j := by
  refine (peek_pokeBytes z.prog _ 0 j).trans ?_
  have hlow : (BitVec.ofNat 16 (len + 6)).setWidth 8 = BitVec.ofNat 8 (len + 6) := by
    apply BitVec.eq_of_toNat_eq
    simp only [BitVec.toNat_setWidth, BitVec.toNat_ofNat]
    omega
  have hhigh : (BitVec.ofNat 16 (len + 6) >>> 8).setWidth 8 = BitVec.ofNat 8 ((len + 6) / 256) := by
    apply BitVec.eq_of_toNat_eq
    simp only [BitVec.toNat_setWidth, BitVec.toNat_ushiftRight, BitVec.toNat_ofNat, Nat.shiftRight_eq_div_pow]
    omega
  rw [hlow, hhigh]
  by_cases h0 : j = 0
  · simp [h0]
  · by_cases h1 : j = 1
    · simp [h1]
    · rw [if_neg (by simp only [List.length_cons, List.length_nil]; omega), if_neg h0, if_neg h1]
      rfl

theorem writeProgram_store {s : State} {c : Byte} (h : s.pp.cnt + 1 ≠ s.pp.len.toNat) :
    writeProgram s (.byte c) = State.wrote
      { s with pcomp := s.pcomp.storeProgram s.pp.cnt c, pp := { s.pp with cnt := s.pp.cnt + 1 } } (.byte c) := by
  simp only [writeProgram, if_neg h]

theorem writeProgram_create {s : State} {c : Byte} (h : s.pp.cnt + 1 = s.pp.len.toNat)
    (hsize : pcompOversize s.caps s.header = none) :
    writeProgram s (.byte c) = State.wrote
      { s with
        pcomp := ((s.pcomp.storeProgram s.pp.cnt c).closeProgram s.pp.len.toNat).createPcomp s.header
        pp := { s.pp with cnt := s.pp.cnt + 1, state := .running } } (.byte c) := by
  simp only [writeProgram, if_pos h, hsize]

theorem writeProgram_oversize {s : State} {c size : Byte} (h : s.pp.cnt + 1 = s.pp.len.toNat)
    (hsize : pcompOversize s.caps s.header = some size) :
    writeProgram s (.byte c) = s.raise (.resPcompSize size) := by
  simp only [writeProgram, if_pos h, hsize]

/-- What a `write` does to PCOMP: its store is prepared; or it stays, but for A, PC and the program byte stored, and no store
comes to be. -/
theorem State.ppWrite_pcomp (s : State) (sym : Symbol) :
    (s.ppWrite sym).pcomp = .preparePcomp s.header ∨
      s.pcomp.Continues (s.ppWrite sym).pcomp ∧ ((s.ppWrite sym).pp.HasStore → s.pp.HasStore) := by
  have hrefl := s.pcomp.continues_refl
  cases hstate : s.pp.state with
  | init =>
    rw [State.ppWrite_init hstate]
    refine .inr ?_
    cases sym with
    | eos => exact ⟨hrefl, id⟩
    | byte c =>
      simp only [writeInit]
      split_ifs
      · exact ⟨hrefl, by rintro (h | h) <;> cases h⟩
      · exact ⟨hrefl, by rintro (h | h) <;> cases h⟩
      · exact ⟨hrefl, id⟩
  | pass =>
    rw [State.ppWrite_pass hstate]
    cases sym <;> exact .inr ⟨hrefl, id⟩
  | lenLow =>
    rw [State.ppWrite_lenLow hstate]
    cases sym with
    | eos => exact .inr ⟨hrefl, id⟩
    | byte c => exact .inr ⟨hrefl, by rintro (h | h) <;> cases h⟩
  | lenHigh =>
    rw [State.ppWrite_lenHigh hstate]
    cases sym with
    | eos => exact .inr ⟨hrefl, id⟩
    | byte c =>
      by_cases hlen : (s.pp.len.toNat + 256 * c.toNat) % 65536 = 0
      · rw [writeLenHigh_empty hlen]; exact .inr ⟨hrefl, id⟩
      · rw [writeLenHigh_prepare hlen]; exact .inl rfl
  | program =>
    rw [State.ppWrite_program hstate]
    refine .inr ⟨?_, fun _ => .inl hstate⟩
    cases sym with
    | eos => exact hrefl
    | byte c =>
      have hstore := s.pcomp.continues_storeProgram s.pp.cnt c
      by_cases hlast : s.pp.cnt + 1 = s.pp.len.toNat
      · cases hsize : pcompOversize s.caps s.header with
        | some size => rw [writeProgram_oversize hlast hsize]; exact hrefl
        | none =>
          rw [writeProgram_create hlast hsize]
          exact hstore.trans (Zpaql.continues_createPcomp _ _ _)
      · rw [writeProgram_store hlast]; exact hstore
  | running =>
    rw [State.ppWrite_running hstate]
    exact .inr ⟨⟨rfl, rfl, id⟩, id⟩

theorem State.continues_ppWrite (s : State) (sym : Symbol) : s.Continues (s.ppWrite sym) := by
  obtain ⟨hh, hq, -, -, -, hl, -⟩ := s.ppWrite_frame sym
  refine ⟨hl, ?_, ?_, s.ppWrite_pcomp sym, ?_⟩
  · rw [hh]; exact s.hcomp.continues_refl
  · rw [hh]
  · rw [hq]; exact id

theorem State.continues_work (s : State) (task : Task) : s.Continues (s.work task) := by
  by_cases hw : ∃ sym, task = .write sym
  · obtain ⟨sym, rfl⟩ := hw
    exact s.continues_ppWrite sym
  · exact (s.work_sameStores fun sym e => hw ⟨sym, e⟩).continues (s.memoryForm_pred_work task)

/-- Settles O58: one equation of `write` for each state and symbol. -/
theorem selectorPassAndLength : Obligations.SelectorPassAndLength := by
  intro s sym hf hp
  rw [step_write hf hp]
  refine ⟨fun hstate => ?_, fun hstate => ?_, fun hstate => ?_, fun hstate => ?_⟩
  · rw [State.ppWrite_init hstate]
    refine ⟨?_, ?_, ?_, ?_⟩
    · rintro rfl; rfl
    · rintro rfl; rfl
    · rintro c rfl h0 h1
      simp only [writeInit, if_neg h0, if_neg h1, State.raise_eq_faultedBy]
    · rintro rfl; rfl
  · rw [State.ppWrite_pass hstate]
    refine ⟨?_, ?_⟩
    · rintro c rfl; rfl
    · rintro rfl; rfl
  · rw [State.ppWrite_lenLow hstate]
    refine ⟨?_, ?_⟩
    · rintro c rfl
      rw [BitVec.ofNat_toNat]
      rfl
    · rintro rfl; rfl
  · rw [State.ppWrite_lenHigh hstate]
    refine ⟨?_, ?_, ?_⟩
    · rintro c rfl hlen
      rw [writeLenHigh_empty hlen, State.raise_eq_faultedBy]
    · rintro c rfl hlen
      rw [writeLenHigh_prepare hlen]
      exact ⟨_, rfl, rfl, rfl, Zpaql.readP_preparePcomp s.header⟩
    · rintro rfl; rfl

/-- Settles O59: the three ways a program byte ends, by the count and by the check of `ph` and `pm`. -/
theorem programByteResult : Obligations.ProgramByteResult := by
  intro s sym hf hp hstate
  rw [step_write hf hp, State.ppWrite_program hstate]
  refine ⟨?_, ?_, ?_, ?_, ?_⟩
  · rintro rfl; rfl
  · rintro c rfl hmore
    rw [writeProgram_store hmore]
    exact ⟨_, rfl, rfl, Zpaql.readP_storeProgram s.pcomp s.pp.cnt c⟩
  · rintro c rfl hlast hph hpm -
    have hsize : pcompOversize s.caps s.header = none := by
      simp only [pcompOversize, if_neg (Nat.not_lt.mpr hph), if_neg (Nat.not_lt.mpr hpm)]
    rw [writeProgram_create hlast hsize]
    have hread := (s.pcomp.storeProgram s.pp.cnt c).readP_closeProgram s.pp.len.toNat
    refine ⟨_, rfl, ⟨rfl, rfl, rfl, rfl, rfl, rfl, fun _ => rfl, fun _ => rfl, fun _ => rfl⟩, rfl, rfl, rfl, rfl, rfl,
      hread 0, hread 1, fun j hj => ?_⟩
    refine (hread j).trans ?_
    rw [if_neg (by omega), if_neg (by omega), Zpaql.readP_storeProgram]
  · rintro c rfl hlast hph
    rw [writeProgram_oversize hlast (if_pos hph), State.raise_eq_faultedBy]
  · rintro c rfl hlast hph hpm
    have hsize : pcompOversize s.caps s.header = some s.header.pm := by
      simp only [pcompOversize, if_neg (Nat.not_lt.mpr hph), if_pos hpm]
    rw [writeProgram_oversize hlast hsize, State.raise_eq_faultedBy]

/-! ### The two invariants -/

/-- Every request but a `load` leaves the stores. -/
theorem State.serve_load_or_continues (s : State) (q : Request) :
    (∃ role bytes, s.serve q = s.load role bytes) ∨ s.Continues (s.serve q) := by
  rcases s.serve_cases q with ⟨role, bytes, -, e⟩ | ⟨task, -, -, e, -⟩ | e | ⟨bytes, e⟩ | ⟨out, sum, e⟩
  · exact .inl ⟨role, bytes, e⟩
  all_goals
    rw [e]
    exact .inr (State.SameStores.continues (State.sameStores_of_eq rfl rfl rfl rfl) id)

/-- Every step is a `load`, or the program stores and the memories continue. -/
theorem step_load_or_continues {s t : State} (h : step s = .next t) :
    (∃ (u : State) (role : Role) (bytes : List Byte), t = u.load role bytes) ∨ s.Continues t := by
  rcases step_next_cases h with ⟨next, i, -, -, he⟩ | ⟨next, e, -, -, rfl⟩ | ⟨next, -, -, rfl⟩ | ⟨task, -, -, rfl⟩ |
    ⟨q, rest, -, -, rfl⟩ | ⟨-, rfl⟩
  · exact .inr (State.continues_exec he)
  · exact .inr (s.continues_raiseFetch e)
  · exact .inr (s.continues_returnRun next)
  · exact .inr (s.continues_work task)
  · rcases State.serve_load_or_continues { s with requests := rest } q with ⟨role, bytes, e⟩ | hc
    · exact .inl ⟨_, role, bytes, e⟩
    · exact .inr ⟨hc.loaded, hc.hcomp, hc.hend, hc.pcomp, hc.pred⟩
  · exact .inr (State.SameStores.continues (State.sameStores_of_eq rfl rfl rfl rfl) id)

theorem Zpaql.memoryForm_ofStore (x : ParsedHeader) : (Zpaql.ofStore x).MemoryForm :=
  memoryForm_of_store rfl rfl rfl (pairwise_programStore x.comp x.hcomp)

theorem Zpaql.memoryForm_ofHeader (x : ParsedHeader) : (Zpaql.ofHeader x).MemoryForm :=
  memoryForm_of_store rfl rfl rfl (pairwise_programStore x.comp x.hcomp)

theorem Zpaql.memoryForm_ofParseFault (e : ParseFault) : (Zpaql.ofParseFault e).MemoryForm :=
  memoryForm_of_store rfl rfl rfl (pairwise_programStore e.comp e.hcomp)

/-- A header has at most 255 descriptors: `n` is a byte (R73). -/
theorem descs_length_le {bytes : List Byte} {x : ParsedHeader} (h : parseHeader bytes = .ok x) : x.descs.length ≤ 255 := by
  obtain ⟨hn, -⟩ := parseHeader_ok h
  have := x.header.n.isLt
  omega

/-- A `load`, successful or not, leaves every memory in canonical form. -/
theorem State.memoryForm_load (s : State) (role : Role) (bytes : List Byte) : (s.load role bytes).MemoryForm := by
  have hblank : Predictor.blank.MemoryForm := Predictor.memoryForm_ofDescs (ds := []) (by decide)
  rcases s.load_cases role bytes with ⟨x, hx, e⟩ | ⟨f, -, e⟩ <;> rw [e]
  · exact ⟨Zpaql.memoryForm_ofHeader x, Zpaql.memoryForm_blank,
      Predictor.memoryForm_ofDescs (descs_length_le (checkHeader_ok hx).1)⟩
  · show (s.builtBeforeFault role bytes).MemoryForm
    rcases s.builtBeforeFault_cases role bytes with ⟨e, -, he⟩ | ⟨x, f, -, -, he⟩ | ⟨x, hx, -, he⟩ <;> rw [he]
    · exact ⟨Zpaql.memoryForm_ofParseFault e, Zpaql.memoryForm_blank, hblank⟩
    · exact ⟨Zpaql.memoryForm_ofStore x, Zpaql.memoryForm_blank, hblank⟩
    · exact ⟨Zpaql.memoryForm_ofHeader x, Zpaql.memoryForm_blank, Predictor.memoryForm_ofDescs
        ((builtComponents_prefix s.caps 0 x.descs).length_le.trans (descs_length_le hx))⟩

/-- Settles O37: a `load` builds canonical memories, every other step keeps them. -/
theorem memoryFormKept : Obligations.MemoryFormKept := by
  intro s t hs h
  obtain ⟨hh, hp, hq⟩ := hs
  rcases step_load_or_continues h with ⟨u, role, bytes, rfl⟩ | hc
  · exact u.memoryForm_load role bytes
  · obtain ⟨-, -, hform⟩ := hc.hcomp
    refine ⟨hform hh, ?_, hc.pred hq⟩
    rcases hc.pcomp with e | ⟨⟨-, -, hform'⟩, -⟩
    · rw [e]; exact Zpaql.memoryForm_preparePcomp s.header
    · exact hform' hp

/-- A successful `load` lays the gap out, a failed one leaves the core not loaded; PCOMP has no store after either. -/
theorem State.gapBeforeProgram_load (s : State) (role : Role) (bytes : List Byte) :
    (s.load role bytes).GapBeforeProgram := by
  rcases s.load_cases role bytes with ⟨x, hx, e⟩ | ⟨f, -, e⟩ <;> rw [e]
  · obtain ⟨-, hcomp, hlast, -⟩ := parseHeader_ok (checkHeader_ok hx).1
    have hcode : 0 < x.hcomp.length := List.length_pos_of_ne_nil fun hnil => by simp [hnil] at hlast
    exact ⟨fun _ => ⟨hcomp, rfl, Nat.lt_add_of_pos_right hcode⟩, by rintro (h | h) <;> cases h⟩
  · show (s.builtBeforeFault role bytes).GapBeforeProgram
    rcases s.builtBeforeFault_cases role bytes with ⟨e, -, he⟩ | ⟨x, f, -, -, he⟩ | ⟨x, -, -, he⟩ <;> rw [he]
    all_goals exact ⟨nofun, by rintro (h | h) <;> cases h⟩

/-- Settles O40: only a `load` places HCOMP's program, only the prepared store places PCOMP's. -/
theorem gapBeforeProgramKept : Obligations.GapBeforeProgramKept := by
  intro s t hs h
  obtain ⟨hgap, hgap'⟩ := hs
  rcases step_load_or_continues h with ⟨u, role, bytes, rfl⟩ | hc
  · exact u.gapBeforeProgram_load role bytes
  · refine ⟨fun hl => ?_, fun hstore => ?_⟩
    · obtain ⟨hcend, hbegin, -⟩ := hc.hcomp
      rw [hcend, hbegin, hc.hend]
      exact hgap (hc.loaded ▸ hl)
    · rcases hc.pcomp with e | ⟨⟨hcend, hbegin, -⟩, hkept⟩
      · rw [e]; exact ⟨rfl, rfl⟩
      · rw [hcend, hbegin]
        exact hgap' (hkept hstore)

/-! ### A fetch outside the program (R77, R172) -/

/-- `Laws.EncodedLength` put together: each constructor's bytes are written out in `encode`. -/
theorem encodedLength (i : Instr) : Laws.EncodedLength.Statement i := by
  cases i <;> exact ⟨_, _, rfl, rfl⟩

theorem fetchedLength_le (op : Byte) : fetchedLength op ≤ 3 := by
  unfold fetchedLength
  split <;> decide

/-- An instruction cut short does not decode; the error counts the bytes that were there. -/
theorem decode_take_encode {i : Instr} {k : Nat} (hk : k < (encode i).length) :
    decode ((encode i).take k) = .error (.endsAfter k) := by
  obtain ⟨op, operands, henc, hlen⟩ := encodedLength i
  rw [henc] at hk ⊢
  have hk' : k < fetchedLength op := by simpa [hlen] using hk
  unfold fetchedLength at hlen hk'
  match k with
  | 0 => rfl
  | 1 =>
    show decode [op] = _
    cases hop : opEntry op with
    | op1 i => simp [hop] at hk'
    | op2 mk => simp only [decode, hop]
    | op3 mk => simp only [decode, hop]
  | k + 2 =>
    cases hop : opEntry op with
    | op1 i => simp [hop] at hk'
    | op2 mk => simp [hop] at hk'
    | op3 mk =>
      simp only [hop] at hlen hk'
      obtain rfl : k = 0 := by omega
      match operands, hlen with
      | [nl, nh], _ =>
        show decode [op, nl] = _
        simp only [decode, hop]

/-- Settles O5: the window ends before the byte outside, and an instruction so cut short is a failed fetch. -/
theorem fetchOutsideProgramFaults : Obligations.FetchOutsideProgramFaults := by
  intro s next i k hf hp hk hin hout
  have hmin : ((encode i).take k).length = k := List.length_take_of_le hk.le
  have hk3 : k ≤ 3 := by
    obtain ⟨op, operands, henc, hlen⟩ := encodedLength i
    have := fetchedLength_le op
    rw [henc, List.length_cons] at hk
    omega
  have hwindow : s.window = (encode i).take k := by
    refine (s.vm.fetchFrom_append 3 s.vm.pc ((encode i).take k) (by omega) fun j hj => ?_).trans ?_
    · rw [hmin] at hj
      rw [List.getElem?_take_of_lt hj]
      exact hin j hj
    · rw [hmin, Zpaql.fetchFrom_outside _ _ _ hout, List.append_nil]
  have hfetch : s.fetch = .error (.endsAfter k) := by
    simp only [State.fetch, hwindow, decode_take_encode hk]
  rw [step_run hf hp]
  simp only [execute, hfetch]
  rfl

/-! ### The parse of a laid-out header (R73, R74) -/

theorem le16_bytes {n : Nat} (h : n ≤ 65535) : le16 (BitVec.ofNat 8 n) (BitVec.ofNat 8 (n / 256)) = n := by
  simp only [le16, BitVec.toNat_ofNat]
  omega

/-- The header is the first `hsize + 2` bytes supplied, seven of them fixed (R73, R74). -/
theorem parseHeader_append {lo hi hh hm ph pm n : Byte} {rest : List Byte} (hlen : rest.length + 7 = le16 lo hi + 2)
    (extra : List Byte) :
    parseHeader (lo :: hi :: hh :: hm :: ph :: pm :: n :: rest ++ extra) =
      parseComp { hsize := BitVec.ofNat 16 (le16 lo hi), hh := hh, hm := hm, ph := ph, pm := pm, n := n }
        (lo :: hi :: hh :: hm :: ph :: pm :: n :: rest) rest := by
  have htake : (lo :: hi :: hh :: hm :: ph :: pm :: n :: rest ++ extra).take (le16 lo hi + 2) =
      lo :: hi :: hh :: hm :: ph :: pm :: n :: rest := List.take_left' (by simpa using hlen)
  simp only [List.cons_append] at htake ⊢
  simp only [parseHeader, htake]

theorem compSection_append (hsize : Nat) (hh hm ph pm : Byte) (descs : List CompDesc) (hcomp : List Byte) :
    compSection hsize hh hm ph pm descs ++ hcomp = BitVec.ofNat 8 hsize :: BitVec.ofNat 8 (hsize / 256) ::
      hh :: hm :: ph :: pm :: BitVec.ofNat 8 descs.length :: (descs.flatMap encodeDesc ++ 0 :: hcomp) := by
  simp [compSection]

/-- The HCOMP section is what `hsize` leaves after the COMP section, if that ends in 0. -/
theorem parseHcomp_append {hd : Header} (descs : List CompDesc) {comp hcomp : List Byte} (hlast : hcomp.getLast? = some 0)
    (hsize : hd.hsize.toNat + 2 = comp.length + hcomp.length) :
    parseHcomp hd descs (comp ++ hcomp) hcomp = .ok { header := hd, descs := descs, comp := comp, hcomp := hcomp } := by
  have hpos : 0 < hcomp.length := List.length_pos_of_ne_nil fun hnil => by simp [hnil] at hlast
  have hcend : (comp ++ hcomp).length - hcomp.length = comp.length := by
    rw [List.length_append, Nat.add_sub_cancel]
  have hlen : hd.hsize.toNat + 2 - comp.length = hcomp.length := by omega
  unfold parseHcomp
  simp only [hcend, hlen, List.take_left]
  rw [if_neg (by omega), if_neg (by omega), if_neg (not_not.mpr hlast)]

/-- Settles O53: `hsize + 2` is the length of the two sections, so the parse sees them and nothing of what follows. -/
theorem headerParsesBack : Obligations.HeaderParsesBack := by
  intro hh hm ph pm descs hcomp extra hn hlast hfits
  have hsize := le16_bytes hfits
  have hlen : headerSize descs hcomp + 2 = (descs.flatMap encodeDesc ++ 0 :: hcomp).length + 7 := by
    simp only [headerSize, List.length_append, List.length_cons]
    omega
  have hcount : (BitVec.ofNat 8 descs.length).toNat = descs.length := by
    rw [BitVec.toNat_ofNat]
    omega
  rw [compSection_append, parseHeader_append (by rw [hsize, hlen]), hsize, parseComp, ← compSection_append]
  simp only [hcount, decodeDescs_encode, if_true]
  refine parseHcomp_append descs hlast ?_
  rw [← List.length_append, compSection_append, BitVec.toNat_ofNat]
  simp only [List.length_cons]
  omega

end Sys2Proof.Machine
end

section
/-! Proofs about the encoding: the opcode map names for each byte the instruction whose encoding starts with that byte
(R102, R104 to R107), and `decode` and `encode` undo each other (R100, R107, R111). -/

namespace Sys2Proof

/-! ### An entry of the opcode map with its operand bytes -/

/-- The instruction that an entry makes of the two bytes after the opcode, as far as its format has them (R100). -/
def OpEntry.instr (n m : Byte) : OpEntry → Instr
  | .op1 i => i
  | .op2 mk => mk n
  | .op3 mk => mk n m

/-- Those of the two bytes after the opcode that are operand bytes of the entry (R100). -/
def OpEntry.operands (n m : Byte) : OpEntry → List Byte
  | .op1 _ => []
  | .op2 _ => [n]
  | .op3 _ => [n, m]

/-- The opcode map read row by row (R101, R104 to R107): both sides evaluate to the same 32 rows of eight encodings, `n` and
`m` standing in them as they are. -/
theorem encode_opEntry_row (n m : Byte) {r z : Nat} (hr : r < 32) (hz : z < 8) :
    encode ((opEntry (BitVec.ofNat 8 (8 * r + z))).instr n m) =
      BitVec.ofNat 8 (8 * r + z) :: (opEntry (BitVec.ofNat 8 (8 * r + z))).operands n m := by
  have hrows : (List.range 32).map (fun r => (List.range 8).map fun z =>
        encode ((opEntry (BitVec.ofNat 8 (8 * r + z))).instr n m)) =
      (List.range 32).map fun r => (List.range 8).map fun z =>
        BitVec.ofNat 8 (8 * r + z) :: (opEntry (BitVec.ofNat 8 (8 * r + z))).operands n m := rfl
  have hrow := List.map_inj_left.mp hrows r (List.mem_range.mpr hr)
  exact List.map_inj_left.mp hrow z (List.mem_range.mpr hz)

/-- The instruction an opcode byte names is encoded as that byte and its operand bytes (R102, R107). -/
theorem encode_opEntry (op n m : Byte) : encode ((opEntry op).instr n m) = op :: (opEntry op).operands n m := by
  have hrow : op.toNat / 8 < 32 := Nat.div_lt_of_lt_mul op.isLt
  have h := encode_opEntry_row n m hrow (Nat.mod_lt op.toNat (by decide : 8 > 0))
  simpa only [Nat.div_add_mod, BitVec.ofNat_toNat, BitVec.setWidth_eq] using h

/-! ### What decodes, and to what -/

/-- Two bytes after the opcode byte are enough for every format (R100). -/
theorem decode_cons (op n m : Byte) (rest : List Byte) :
    decode (op :: n :: m :: rest) =
      .ok ((opEntry op).instr n m, (n :: m :: rest).drop ((opEntry op).operands n m).length) := by
  cases hop : opEntry op <;> simp only [decode, hop] <;> rfl

/-- Bytes that decode start with an opcode byte and the operand bytes of its entry. -/
theorem decode_ok {bytes rest : List Byte} {i : Instr} (h : decode bytes = .ok (i, rest)) :
    ∃ op n m, i = (opEntry op).instr n m ∧ bytes = op :: (opEntry op).operands n m ++ rest := by
  unfold decode at h
  split at h
  next => cases h
  next op tail =>
    split at h
    next hop => cases h; exact ⟨op, 0, 0, by rw [hop]; exact ⟨rfl, rfl⟩⟩
    next n _ hop => cases h; exact ⟨op, n, 0, by rw [hop]; exact ⟨rfl, rfl⟩⟩
    next => cases h
    next nl nh _ hop => cases h; exact ⟨op, nl, nh, by rw [hop]; exact ⟨rfl, rfl⟩⟩
    next => cases h
    next => cases h

/-- Settles O2: an instruction that decodes is the entry's, and the map's entries encode back to their opcode byte. -/
theorem decodedBytesAreTheEncoding : Obligations.DecodedBytesAreTheEncoding := by
  refine ⟨fun bytes i rest h => ?_, fun op n m rest => ?_⟩
  · obtain ⟨op, n, m, rfl, rfl⟩ := decode_ok h
    rw [encode_opEntry]
  · exact ⟨_, _, decode_cons op n m rest, by rw [encode_opEntry]; rfl⟩

/-! ### Decoding what was encoded -/

/-- Each constructor's opcode byte, written out in `encode`, selects that constructor in the opcode map, and what follows
its operand bytes is left over. -/
theorem decode_encode (i : Instr) (rest : List Byte) : decode (encode i ++ rest) = .ok (i, rest) := by
  cases i <;> rfl

theorem encodeProgram_cons (i : Instr) (is : List Instr) : encodeProgram (i :: is) = encode i ++ encodeProgram is :=
  List.flatMap_cons

/-- An encoding is never empty, so a program's first instruction takes one turn of `decodeProgram`. -/
theorem decodeProgram_encode_append {fuel : Nat} {bytes : List Byte} {is : List Instr} (i : Instr)
    (h : decodeProgram fuel bytes = .ok is) : decodeProgram (fuel + 1) (encode i ++ bytes) = .ok (i :: is) := by
  have hdec := decode_encode i bytes
  obtain ⟨op, operands, henc, -⟩ := Machine.encodedLength i
  rw [henc, List.cons_append] at hdec ⊢
  simp only [decodeProgram, hdec, h]

/-- Settles O1, by induction on the program: each turn of the decoder takes off one instruction's bytes. -/
theorem decodeEncodedProgram : Obligations.DecodeEncodedProgram := by
  intro is
  induction is with
  | nil => rfl
  | cons i is ih =>
    rw [encodeProgram_cons]
    exact decodeProgram_encode_append i ih

/-! ### Words -/

/-- A word holds the three bytes that the longest format has, so it always decodes, by the entry of its first byte. -/
theorem decodeTableWord_eq (nbits w : Nat) :
    decodeTableWord nbits w = some ((opEntry (BitVec.ofNat 8 (w % 2 ^ nbits))).instr
      (BitVec.ofNat 8 (w % 2 ^ nbits / 256)) (BitVec.ofNat 8 (w % 2 ^ nbits / 65536))) := by
  simp only [decodeTableWord, wordBytes, decode_cons]

/-- Settles O3: the entry of each word's first byte, on the bytes after it. -/
theorem wordsDecode : Obligations.WordsDecode := by
  simp only [Obligations.WordsDecode, decodeTableWord_eq]
  exact ⟨rfl, rfl, rfl, rfl, rfl, rfl, rfl⟩

end Sys2Proof
end

section
/-! Proofs about the one-operand instructions (R130, R132 to R165): a location incremented, decremented, complemented,
cleared or exchanged with A, and nothing else changed; and about the opcodes that fault (R131, R186). -/

namespace Sys2Proof.Machine

/-! ### An instruction that writes one location -/

/-- An instruction that writes `v` of its `Zpaql` to a location completes, and leaves the rest as it was. -/
theorem exec_wrote {i : Instr} {s : State} {len : Nat} {x : Loc} {v : Zpaql → Word} {w : Word}
    (h : exec i s = .next (s.complete len fun z => z.writeLoc x (v z))) (hv : v s.vm = w) :
    ∃ z', exec i s = .next (s.setVm z') ∧ s.vm.Wrote x w (s.vm.pc + len) z' :=
  ⟨_, h, hv ▸ s.vm.wrote_writeLoc x (v s.vm) len⟩

theorem encode_ofInc (x : Loc) : encode (Instr.ofInc x) = [BitVec.ofNat 8 (8 * locCode x + 1)] := by cases x <;> rfl
theorem encode_ofDec (x : Loc) : encode (Instr.ofDec x) = [BitVec.ofNat 8 (8 * locCode x + 2)] := by cases x <;> rfl
theorem encode_ofNot (x : Loc) : encode (Instr.ofNot x) = [BitVec.ofNat 8 (8 * locCode x + 3)] := by cases x <;> rfl
theorem encode_ofZero (x : Loc) : encode (Instr.ofZero x) = [BitVec.ofNat 8 (8 * locCode x + 4)] := by cases x <;> rfl

theorem Zpaql.readLoc_add_one (z : Zpaql) (x : Loc) : z.readLoc x + 1 = BitVec.ofNat 32 (z.held x + 1) := by
  rw [z.readLoc_eq x]
  exact (BitVec.ofNat_add _ _).symm

theorem Zpaql.readLoc_sub_one (z : Zpaql) (x : Loc) : z.readLoc x - 1 = BitVec.ofInt 32 ((z.held x : Int) - 1) := by
  rw [z.readLoc_eq x, Int.sub_eq_add_neg, BitVec.ofInt_add, BitVec.ofInt_natCast, BitVec.sub_eq_add_neg]
  rfl

theorem Zpaql.not_readLoc (z : Zpaql) (x : Loc) : ~~~z.readLoc x = BitVec.ofNat 32 (2 ^ 32 - 1 - z.held x) := by
  apply BitVec.eq_of_toNat_eq
  rw [BitVec.toNat_not, z.toNat_readLoc x, BitVec.toNat_ofNat, Nat.mod_eq_of_lt (by omega)]

/-- Settles O6: `X++` writes the value read, plus 1. -/
theorem incrementResult : Obligations.IncrementResult := fun x s =>
  ⟨encode_ofInc x, exec_wrote (exec_ofInc x s) (s.vm.readLoc_add_one x)⟩

/-- Settles O7: `X--` writes the value read, minus 1; from 0 both sides wrap to 2^32 - 1. -/
theorem decrementResult : Obligations.DecrementResult := fun x s =>
  ⟨encode_ofDec x, exec_wrote (exec_ofDec x s) (s.vm.readLoc_sub_one x)⟩

/-- Settles O8: `X!` writes the complement of the 32-bit value read; a byte of M keeps its low 8 bits. -/
theorem complementResult : Obligations.ComplementResult := fun x s =>
  ⟨encode_ofNot x, exec_wrote (exec_ofNot x s) (s.vm.not_readLoc x)⟩

/-- Settles O9: `X=0` writes a constant. -/
theorem clearResult : Obligations.ClearResult := fun x s =>
  ⟨encode_ofZero x, exec_wrote (v := fun _ => 0) (exec_ofZero x s) rfl⟩

/-! ### Swaps with A -/

/-- A write of A changes what is held of A alone. -/
theorem Zpaql.Holds.with_a {z z' : Zpaql} {a b c d : Word} {f : Bool} {pc : Nat} {m : Nat → Byte} {h : Nat → Word}
    {r : Byte → Word} (hz : z.Holds z' a b c d f pc m h r) (v : Word) :
    z.Holds { z' with a := v } v b c d f pc m h r := by
  obtain ⟨-, hrest⟩ := hz
  exact ⟨rfl, hrest⟩

/-- Bits 31:8 of a word with a byte below them, as a number. -/
theorem replaceLowByte_eq (a : Word) (v : Byte) :
    (a &&& 0xFFFFFF00) ||| v.setWidth 32 = BitVec.ofNat 32 (a.toNat - a.toNat % 256 + v.toNat) := by
  have hhigh : a &&& (0xFFFFFF00 : Word) = (a >>> 8) <<< 8 := (BitVec.shiftLeft_ushiftRight (x := a) (n := 8)).symm
  have hv : (v.setWidth 32).toNat = v.toNat := BitVec.toNat_setWidth_of_le (by decide)
  apply BitVec.eq_of_toNat_eq
  rw [hhigh, shiftIn_toNat _ _ (hv ▸ v.isLt), hv, BitVec.toNat_ushiftRight, Nat.shiftRight_eq_div_pow, BitVec.toNat_ofNat]
  omega

theorem lowByte_eq (a : Word) : a.setWidth 8 = BitVec.ofNat 8 (a.toNat % 256) := by
  apply BitVec.eq_of_toNat_eq
  simp

/-- `*B<>A` and `*C<>A` alike: `k` is the place in M that the location `x` reads and writes. -/
theorem Zpaql.holds_swapByte (z : Zpaql) {x : Loc} {k : Nat} (hread : z.readLoc x = (z.readM k).setWidth 32)
    (hwrite : z.writeLoc x z.a = z.writeM k (z.a.setWidth 8)) :
    z.Holds ((z.swapByte x).advance 1) (BitVec.ofNat 32 (z.a.toNat - z.a.toNat % 256 + (z.readM k).toNat))
      z.b z.c z.d z.f (z.pc + 1) (setAt z.readM k (BitVec.ofNat 8 (z.a.toNat % 256))) z.readH z.readR := by
  unfold Zpaql.swapByte
  rw [hread, hwrite, replaceLowByte_eq, lowByte_eq]
  exact ⟨rfl, rfl, rfl, rfl, rfl, rfl, fun j => z.readM_writeM _ _ j, fun _ => rfl, fun _ => rfl, z.sameConfig_refl⟩

/-- Settles O10: a swap of words writes A to the location, then the location's old value to A; the two of bytes are
`holds_swapByte`. -/
theorem swapResult : Obligations.SwapResult := fun s =>
  ⟨⟨rfl, _, rfl, (s.vm.wrote_writeLoc .b s.vm.a 1).with_a s.vm.b⟩,
    ⟨rfl, _, rfl, (s.vm.wrote_writeLoc .c s.vm.a 1).with_a s.vm.c⟩,
    ⟨rfl, _, rfl, (s.vm.wrote_writeLoc .d s.vm.a 1).with_a s.vm.d⟩,
    ⟨rfl, _, rfl, s.vm.holds_swapByte (x := .mb) rfl rfl⟩,
    ⟨rfl, _, rfl, s.vm.holds_swapByte (x := .mc) rfl rfl⟩,
    ⟨rfl, _, rfl, (s.vm.wrote_writeLoc .hd s.vm.a 1).with_a (s.vm.readLoc .hd)⟩⟩

/-! ### Opcodes that fault -/

/-- The table of undefined opcodes lists each under its opcode (R107). -/
theorem encode_undefined {row : Nat × Instr} (h : row ∈ Instr.undefinedRows) :
    encode row.2 = [BitVec.ofNat 8 row.1] := by
  have hrows : Instr.undefinedRows.map (fun row => encode row.2) =
      Instr.undefinedRows.map fun row => [BitVec.ofNat 8 row.1] := rfl
  exact List.map_inj_left.mp hrows row h

/-- Every row of the table has the one shared meaning (R186): both sides evaluate to the same 40 outcomes. -/
theorem exec_undefined {row : Nat × Instr} (h : row ∈ Instr.undefinedRows) (s : State) :
    exec row.2 s = undefinedOpcode (BitVec.ofNat 8 row.1) s := by
  have hrows : Instr.undefinedRows.map (fun row => exec row.2 s) =
      Instr.undefinedRows.map fun row => undefinedOpcode (BitVec.ofNat 8 row.1) s := rfl
  exact List.map_inj_left.mp hrows row h

/-- Settles O18: `ERROR`, the list of the 40 opcodes, then any row of it. -/
theorem faultingOpcodeResult : Obligations.FaultingOpcodeResult :=
  ⟨fun _ => ⟨rfl, rfl⟩, rfl, fun _ _ h s => ⟨encode_undefined h, exec_undefined h s⟩⟩

end Sys2Proof.Machine
end

section
/-! Proofs about the register file, the jumps, `HALT`, `OUT` and the hashes (R173 to R185); about the step that runs an
instruction (R171, R172); and about the two steps that start a `run`: the bit that completes a byte (R170, R430, R462) and
a `write` in state 5 (R515). -/

namespace Sys2Proof.Machine

/-! ### A step of a `run` -/

theorem length_encode_le (i : Instr) : (encode i).length ≤ 3 := by
  obtain ⟨op, operands, henc, hlen⟩ := encodedLength i
  have hfetched := fetchedLength_le op
  rw [henc, List.length_cons]
  omega

/-- Settles O4: the window starts with the bytes of `i`, and `decode` gives `i` back whatever follows them. -/
theorem stepRunsDecodedInstruction : Obligations.StepRunsDecodedInstruction := by
  intro s next i hf hp hin
  obtain ⟨rest, hwindow⟩ : ∃ rest, s.window = encode i ++ rest :=
    ⟨_, s.vm.fetchFrom_append 3 s.vm.pc (encode i) (length_encode_le i) hin⟩
  have hfetch : s.fetch = .ok i := by
    simp only [State.fetch, hwindow, decode_encode]
  rw [step_run hf hp]
  simp only [execute, hfetch]

/-! ### The register file -/

/-- Settles O11: each load writes the element it has read to its register. -/
theorem loadRegisterResult : Obligations.LoadRegisterResult := fun n _ =>
  ⟨⟨rfl, exec_wrote (x := .a) (v := (·.readR n)) rfl rfl⟩,
    ⟨rfl, exec_wrote (x := .b) (v := (·.readR n)) rfl rfl⟩,
    ⟨rfl, exec_wrote (x := .c) (v := (·.readR n)) rfl rfl⟩,
    ⟨rfl, exec_wrote (x := .d) (v := (·.readR n)) rfl rfl⟩⟩

/-- Settles O12: a read of R after the write is `readR_writeR`; nothing else but PC is touched. -/
theorem storeRegisterResult : Obligations.StoreRegisterResult := fun n s =>
  ⟨rfl, _, rfl, rfl, rfl, rfl, rfl, rfl, rfl, fun _ => rfl, fun _ => rfl, s.vm.readR_writeR n s.vm.a,
    s.vm.sameConfig_refl⟩

/-! ### Jumps -/

theorem Zpaql.movedTo_with_pc (z : Zpaql) (pc : Nat) : z.MovedTo pc { z with pc := pc } :=
  ⟨rfl, rfl, rfl, rfl, rfl, rfl, fun _ => rfl, fun _ => rfl, fun _ => rfl, z.sameConfig_refl⟩

theorem neg_128_le_displacement (n : Byte) : -128 ≤ displacement n := by
  unfold displacement
  split <;> omega

/-- Where a short jump goes: nothing is cut off at 0 for an instruction at 126 or above (R103, log 10). -/
theorem jumpTarget_eq {pc0 : Nat} (h : 126 ≤ pc0) (n : Byte) : (jumpTarget pc0 n : Int) = pc0 + 2 + displacement n := by
  have hn := neg_128_le_displacement n
  rw [jumpTarget, ← displacement_eq, Int.toNat_of_nonneg (by omega)]

/-- The three short jumps alike (R178 to R180). -/
theorem jumpIf_movedTo (taken : Bool) (n : Byte) {s : State} (h : 126 ≤ s.vm.pc) :
    ∃ z', jumpIf taken n s = .next (s.setVm z') ∧
      ∃ pc : Nat, (pc : Int) = (s.vm.pc : Int) + 2 + (if taken then displacement n else 0) ∧ s.vm.MovedTo pc z' := by
  refine ⟨_, rfl, _, ?_, s.vm.movedTo_with_pc _⟩
  cases taken with
  | true => exact jumpTarget_eq h n
  | false => simp

/-- Settles O13: `JT`, `JF` and `JMP` are `jumpIf` on F, on its negation and on `true`. -/
theorem shortJumpResult : Obligations.ShortJumpResult := by
  intro n s h
  have hjf : (if (!s.vm.f) = true then displacement n else 0) = if s.vm.f = true then 0 else displacement n := by
    cases s.vm.f <;> rfl
  exact ⟨⟨rfl, jumpIf_movedTo s.vm.f n h⟩, ⟨rfl, hjf ▸ jumpIf_movedTo (!s.vm.f) n h⟩, ⟨rfl, jumpIf_movedTo true n h⟩⟩

theorem longJump_below {s : State} {nl nh : Byte} (h : s.vm.hbegin + le16 nl nh < s.vm.hend) :
    longJump nl nh s = .next (s.setVm { s.vm with pc := s.vm.hbegin + le16 nl nh }) :=
  if_neg (Nat.not_le.mpr h)

theorem longJump_beyond {s : State} {nl nh : Byte} (h : s.vm.hend ≤ s.vm.hbegin + le16 nl nh) :
    longJump nl nh s =
      .next (s.faultedAt (s.vm.pc + 3) (.execLjTarget s.inst s.vm.pc (s.vm.hbegin + le16 nl nh))) :=
  if_pos h

/-- Settles O14: the check of the target against `hend` separates the two clauses. -/
theorem longJumpResult : Obligations.LongJumpResult := by
  intro nl nh s
  have htarget : s.vm.hbegin + nl.toNat + 256 * nh.toNat = s.vm.hbegin + le16 nl nh := Nat.add_assoc ..
  rw [htarget]
  exact ⟨rfl, fun h => ⟨_, longJump_below h, s.vm.movedTo_with_pc _⟩, longJump_beyond⟩

/-! ### `HALT`, `OUT`, `HASH`, `HASHD` -/

/-- Settles O15: a `run` in progress becomes a `run` that has halted, with the same caller. -/
theorem haltResult : Obligations.HaltResult := by
  intro s next hp
  refine ⟨rfl, s.vm.advance 1, ?_, s.vm.movedTo_with_pc _⟩
  have hphase : (s.setVm (s.vm.advance 1)).phase.afterHalt = .halted next := by
    rw [State.phase_setVm, hp]
    rfl
  exact congrArg (fun p => Host.Outcome.next { s.setVm (s.vm.advance 1) with phase := p }) hphase

theorem State.outAttached_iff (s : State) : s.outAttached = true ↔ s.inst = .pcomp ∧ s.outSink = true := by
  simp [State.outAttached]

theorem State.sumAttached_iff (s : State) : s.sumAttached = true ↔ s.inst = .pcomp ∧ s.sumSink = true := by
  simp [State.sumAttached]

/-- Settles O16: `putByte` appends to each sink that is attached, and both sinks are PCOMP's. -/
theorem outResult : Obligations.OutResult := by
  intro s
  refine ⟨rfl, s.vm.advance 1, ?_, s.vm.movedTo_with_pc _⟩
  show Host.Outcome.next ((s.setVm (s.vm.advance 1)).putByte s.outAttached s.sumAttached (s.vm.a.setWidth 8)) = _
  simp only [State.putByte, State.outAttached_iff, State.sumAttached_iff, State.output_setVm, State.checksum_setVm,
    lowByte_eq]

theorem hashStep_eq (value operand : Word) :
    hashStep value operand = BitVec.ofNat 32 ((value.toNat + operand.toNat + 512) * 773) := by
  simp only [hashStep, BitVec.ofNat_mul, BitVec.ofNat_add, BitVec.ofNat_toNat, BitVec.setWidth_eq]
  rfl

/-- Settles O17: each of the two writes the hash of what it has read, `HASH` to A and `HASHD` to the word of H. -/
theorem hashResult : Obligations.HashResult := by
  intro s
  refine ⟨⟨rfl, exec_wrote (x := .a) (v := fun z => hashStep z.a (z.readLoc .mb)) rfl ?_⟩,
    ⟨rfl, exec_wrote (x := .hd) (v := fun z => hashStep (z.readLoc .hd) z.a) rfl ?_⟩⟩
  · rw [hashStep_eq, Zpaql.toNat_readLoc]
  · rw [hashStep_eq, Zpaql.toNat_readLoc]

/-! ### The bit that completes a byte -/

/-- `update` from a `c8` of 8 bits (R462): the `run` starts when the bit is the eighth. -/
theorem State.updated_update {s : State} (h : s.pred.c8.toNat < 256) (y : Bool) (next : Task) :
    s.Updated y next (s.update y next) := by
  have hc8 : ((s.pred.train y).advance y).c8.toNat = 2 * s.pred.c8.toNat + y.toNat :=
    (s.pred.train y).c8_advance y h
  have hy : y.toNat ≤ 1 := y.toNat_le
  rcases s.update_cases y next with ⟨hge, e⟩ | ⟨hlt, e⟩ <;> rw [e]
  · rw [hc8] at hge
    exact ⟨hc8, fun _ => ⟨rfl, rfl, by rw [hc8]⟩, fun _ => by omega, rfl⟩
  · rw [hc8] at hlt
    exact ⟨hc8, fun _ => by omega, fun _ => ⟨rfl, rfl, rfl⟩, rfl⟩

@[simp] theorem State.coder_update (s : State) (y : Bool) (next : Task) : (s.update y next).coder = s.coder := by
  rcases s.update_cases y next with ⟨-, e⟩ | ⟨-, e⟩ <;> rw [e]

@[simp] theorem State.reader_update (s : State) (y : Bool) (next : Task) : (s.update y next).reader = s.reader := by
  rcases s.update_cases y next with ⟨-, e⟩ | ⟨-, e⟩ <;> rw [e]

/-- The decoding loop's variable with a bit appended (R480). -/
theorem shiftLeft_one_or_bit (v : BitVec 9) (y : Bool) :
    v <<< 1 ||| BitVec.ofNat 9 y.toNat = BitVec.ofNat 9 (2 * v.toNat + y.toNat) := by
  have hdisjoint : v <<< 1 &&& BitVec.ofNat 9 y.toNat = 0 := by
    cases y
    · simp
    · ext i hi
      simpa using fun h0 _ => h0
  rw [← BitVec.add_eq_or_of_and_eq_zero _ _ hdisjoint]
  bv_omega

theorem State.decodeBit_bit {s : State} {p : Nat} {y : Bool} {coder : Coder} {rest : List Byte}
    (h : s.coder.decode p s.reader = .bit y coder rest) (k : Bool → State → State) :
    s.decodeBit p k = k y { s with coder := coder, reader := rest } := by
  simp only [State.decodeBit, h]

/-- A turn of the decoding loop before its last (R480). -/
theorem decodeBits_of_lt {v : BitVec 9} (h : v.toNat < 256) (s : State) :
    decodeBits v s = s.predict.decodeBit s.predict.dataProb fun y s =>
      s.update y (.decodeBits (BitVec.ofNat 9 (2 * v.toNat + y.toNat))) := by
  simp only [decodeBits, if_neg (Nat.not_le.mpr h), shiftLeft_one_or_bit]

/-- Settles O51: coding a bit and decoding one both end in `update`, which `predict` and the coder do not reach. -/
theorem updateRunsHcomp : Obligations.UpdateRunsHcomp := by
  intro s hf hc8
  refine ⟨fun c k hp => ⟨_, step_work hf hp, ?_⟩, fun v hp hv => ?_⟩
  · exact State.updated_update (s := s.predict.encodeBit (c.getLsbD k) s.predict.dataProb) hc8 (c.getLsbD k) _
  have hstep : step s = .next (s.predict.decodeBit s.predict.dataProb fun y s =>
      s.update y (.decodeBits (BitVec.ofNat 9 (2 * v.toNat + y.toNat)))) := by
    rw [step_work hf hp, ← decodeBits_of_lt hv]
    rfl
  refine ⟨fun y coder rest hbit => ?_, fun hnobit => ?_⟩
  · rw [State.decodeBit_bit (s := s.predict) (p := s.predict.dataProb) hbit] at hstep
    exact ⟨_, hstep, State.coder_update .., State.reader_update ..,
      State.updated_update (s := { s.predict with coder := coder, reader := rest }) hc8 y _⟩
  · refine ⟨_, hstep, ?_⟩
    rcases s.predict.decodeBit_cases s.predict.dataProb _ with ⟨y, coder, rest, hbit, -⟩ | e | e
    · exact absurd hbit (hnobit y coder rest)
    · rw [e]; exact ⟨nofun, rfl, rfl, rfl, rfl⟩
    · rw [e]; exact ⟨nofun, rfl, rfl, rfl, rfl⟩

/-! ### A `write` in state 5 -/

/-- Settles O60: `startRun` sets A and PC of PCOMP, on the input of either symbol. -/
theorem runningResult : Obligations.RunningResult := by
  intro s sym hf hp hstate
  have hstep : step s = .next (s.startRun .pcomp sym.input (.finish sym.report)) := by
    rw [step_write hf hp, State.ppWrite_running hstate]
    rfl
  refine ⟨?_, ?_⟩
  · rintro c rfl
    rw [hstep, BitVec.ofNat_toNat]
    rfl
  · rintro rfl
    rw [hstep]
    rfl

end Sys2Proof.Machine
end

section
/-! Proofs about the assignments (R200 to R256): the source, read before the write, goes to the destination, and nothing
else is changed. -/

namespace Sys2Proof.Machine

/-- The field `y` of the opcode is the code of the destination, the field `z` that of the source (R105, R200). -/
theorem encode_ofMov (x : Loc) (src : Src) :
    encode (Instr.ofMov x src) = sourceEncoding (64 + 8 * locCode x) src := by
  cases src with
  | loc y => cases x <;> cases y <;> rfl
  | imm n => cases x <;> rfl

/-- Settles O19: `assign` is a write of the source value, read in the state before the write. -/
theorem assignResult : Obligations.AssignResult := by
  intro x src s
  rw [← srcLength_eq src]
  exact ⟨encode_ofMov x src, exec_wrote (exec_ofMov x src s) (s.vm.readSrc_eq src)⟩

end Sys2Proof.Machine
end

section
/-! Proofs about the operations on A (R260 to R308): the opcode of each, and what A holds after the addition, the
subtraction, the multiplication, the division, the remainder and the AND, as a number. -/

namespace Sys2Proof.Machine

/-! ### Any operation on A -/

/-- The code of an operation, the field `k` of its opcode: 8 opcodes per operation, from 128 on (R106, R260). -/
def aluCode : AluOp → Nat
  | .add => 0
  | .sub => 1
  | .mul => 2
  | .div => 3
  | .mod => 4
  | .and => 5
  | .andNot => 6
  | .or => 7
  | .xor => 8
  | .shl => 9
  | .shr => 10

/-- The field `k` of the opcode is the code of the operation, the field `z` that of the source (R106, R260). -/
theorem encode_ofAlu (k : AluOp) (src : Src) :
    encode (Instr.ofAlu k src) = sourceEncoding (128 + 8 * aluCode k) src := by
  cases src with
  | loc x => cases k <;> cases x <;> rfl
  | imm n => cases k <;> rfl

/-- An operation on A is a write of its result to A. -/
theorem exec_ofAlu_wrote {k : AluOp} {src : Src} {s : State} {w : Word}
    (h : aluResult k s.vm.a (s.vm.readSrc src) = w) :
    ∃ z', exec (Instr.ofAlu k src) s = .next (s.setVm z') ∧ s.vm.Wrote .a w (s.vm.pc + sourceBytes src) z' := by
  rw [← srcLength_eq src]
  exact exec_wrote (x := .a) (v := fun z => aluResult k z.a (z.readSrc src)) (exec_ofAlu k src s) h

/-! ### The results as numbers -/

theorem aluResult_add (a v : Word) : aluResult .add a v = BitVec.ofNat 32 (a.toNat + v.toNat) := by
  simp only [aluResult, BitVec.ofNat_add, BitVec.ofNat_toNat, BitVec.setWidth_eq]

theorem aluResult_sub (a v : Word) : aluResult .sub a v = BitVec.ofInt 32 ((a.toNat : Int) - v.toNat) := by
  simp only [aluResult, Int.sub_eq_add_neg, BitVec.ofInt_add, BitVec.ofInt_neg, BitVec.ofInt_natCast,
    BitVec.ofNat_toNat, BitVec.setWidth_eq, BitVec.sub_eq_add_neg]

theorem aluResult_mul (a v : Word) : aluResult .mul a v = BitVec.ofNat 32 (a.toNat * v.toNat) := by
  simp only [aluResult, BitVec.ofNat_mul, BitVec.ofNat_toNat, BitVec.setWidth_eq]

/-- The model tests the divisor as a word, the claims test it as a number (R285, R293). -/
theorem guardZero_eq (v : Word) (n : Nat) :
    (if v = 0 then (0 : Word) else BitVec.ofNat 32 n) = BitVec.ofNat 32 (if v.toNat = 0 then 0 else n) := by
  have hzero : v = 0 ↔ v.toNat = 0 := BitVec.toNat_eq
  by_cases hv : v = 0
  · rw [if_pos hv, if_pos (hzero.mp hv)]
    rfl
  · rw [if_neg hv, if_neg (mt hzero.mpr hv)]

theorem aluResult_div (a v : Word) :
    aluResult .div a v = BitVec.ofNat 32 (if v.toNat = 0 then 0 else a.toNat / v.toNat) :=
  guardZero_eq v (a.toNat / v.toNat)

theorem aluResult_mod (a v : Word) :
    aluResult .mod a v = BitVec.ofNat 32 (if v.toNat = 0 then 0 else a.toNat % v.toNat) :=
  guardZero_eq v (a.toNat % v.toNat)

theorem aluResult_and (a v : Word) : aluResult .and a v = BitVec.ofNat 32 (a.toNat &&& v.toNat) := by
  simp only [aluResult, BitVec.ofNat_and, BitVec.ofNat_toNat, BitVec.setWidth_eq]

/-! ### The six operations -/

/-- Settles O20: the sum of two words is the sum of their numbers modulo 2^32. -/
theorem addResult : Obligations.AddResult := fun src s =>
  ⟨encode_ofAlu .add src, exec_ofAlu_wrote (by rw [aluResult_add, s.vm.toNat_readSrc src])⟩

/-- Settles O21: the difference of two words is the integer difference of their numbers modulo 2^32, also below 0. -/
theorem subtractResult : Obligations.SubtractResult := fun src s =>
  ⟨encode_ofAlu .sub src, exec_ofAlu_wrote (by rw [aluResult_sub, s.vm.toNat_readSrc src])⟩

/-- Settles O22: the product of two words is the product of their numbers modulo 2^32. -/
theorem multiplyResult : Obligations.MultiplyResult := fun src s =>
  ⟨encode_ofAlu .mul src, exec_ofAlu_wrote (by rw [aluResult_mul, s.vm.toNat_readSrc src])⟩

/-- Settles O23: the divisor is 0 as a word exactly when it is 0 as a number. -/
theorem divideResult : Obligations.DivideResult := fun src s =>
  ⟨encode_ofAlu .div src, exec_ofAlu_wrote (by rw [aluResult_div, s.vm.toNat_readSrc src])⟩

/-- Settles O24: the test for 0 is that of the quotient. -/
theorem moduloResult : Obligations.ModuloResult := fun src s =>
  ⟨encode_ofAlu .mod src, exec_ofAlu_wrote (by rw [aluResult_mod, s.vm.toNat_readSrc src])⟩

/-- Settles O25: the AND of two words is the AND of their numbers. -/
theorem andResult : Obligations.AndResult := fun src s =>
  ⟨encode_ofAlu .and src, exec_ofAlu_wrote (by rw [aluResult_and, s.vm.toNat_readSrc src])⟩

end Sys2Proof.Machine
end

section
/-! Proofs about the logic operations and the shifts (R311 to R350): what A holds after each, as a number; and about the
comparisons (R351 to R374): what F holds, and that nothing but F and PC has changed. -/

namespace Sys2Proof.Machine

/-! ### The results as numbers -/

theorem aluResult_andNot (a v : Word) :
    aluResult .andNot a v = BitVec.ofNat 32 (a.toNat &&& (2 ^ 32 - 1 - v.toNat)) := by
  have hnot : ~~~v = BitVec.ofNat 32 (2 ^ 32 - 1 - v.toNat) := by
    rw [← BitVec.toNat_not, BitVec.ofNat_toNat, BitVec.setWidth_eq]
  simp only [aluResult, BitVec.ofNat_and, BitVec.ofNat_toNat, BitVec.setWidth_eq, hnot]

theorem aluResult_or (a v : Word) : aluResult .or a v = BitVec.ofNat 32 (a.toNat ||| v.toNat) := by
  simp only [aluResult, BitVec.ofNat_or, BitVec.ofNat_toNat, BitVec.setWidth_eq]

theorem aluResult_xor (a v : Word) : aluResult .xor a v = BitVec.ofNat 32 (a.toNat ^^^ v.toNat) := by
  simp only [aluResult, BitVec.ofNat_xor, BitVec.ofNat_toNat, BitVec.setWidth_eq]

theorem aluResult_shl (a v : Word) : aluResult .shl a v = BitVec.ofNat 32 (a.toNat * 2 ^ (v.toNat % 32)) := by
  apply BitVec.eq_of_toNat_eq
  rw [aluResult, BitVec.toNat_shiftLeft, BitVec.toNat_ofNat, Nat.shiftLeft_eq]

/-- A quotient of a word is a word: nothing is reduced (R343). -/
theorem aluResult_shr (a v : Word) : aluResult .shr a v = BitVec.ofNat 32 (a.toNat / 2 ^ (v.toNat % 32)) := by
  have hlt : a.toNat / 2 ^ (v.toNat % 32) < 2 ^ 32 := Nat.lt_of_le_of_lt (Nat.div_le_self ..) a.isLt
  apply BitVec.eq_of_toNat_eq
  rw [aluResult, BitVec.toNat_ushiftRight, BitVec.toNat_ofNat, Nat.mod_eq_of_lt hlt, Nat.shiftRight_eq_div_pow]

/-! ### The five operations -/

/-- Settles O26: the complement of a word is `2^32 - 1` minus its number. -/
theorem andNotResult : Obligations.AndNotResult := fun src s =>
  ⟨encode_ofAlu .andNot src, exec_ofAlu_wrote (by rw [aluResult_andNot, s.vm.toNat_readSrc src])⟩

/-- Settles O27: the OR of two words is the OR of their numbers. -/
theorem orResult : Obligations.OrResult := fun src s =>
  ⟨encode_ofAlu .or src, exec_ofAlu_wrote (by rw [aluResult_or, s.vm.toNat_readSrc src])⟩

/-- Settles O28: the exclusive OR of two words is the exclusive OR of their numbers. -/
theorem xorResult : Obligations.XorResult := fun src s =>
  ⟨encode_ofAlu .xor src, exec_ofAlu_wrote (by rw [aluResult_xor, s.vm.toNat_readSrc src])⟩

/-- Settles O29: a shift left multiplies by a power of 2, modulo 2^32. -/
theorem shiftLeftResult : Obligations.ShiftLeftResult := fun src s =>
  ⟨encode_ofAlu .shl src, exec_ofAlu_wrote (by rw [aluResult_shl, s.vm.toNat_readSrc src])⟩

/-- Settles O30: a logical shift right divides by a power of 2 and rounds down. -/
theorem shiftRightResult : Obligations.ShiftRightResult := fun src s =>
  ⟨encode_ofAlu .shr src, exec_ofAlu_wrote (by rw [aluResult_shr, s.vm.toNat_readSrc src])⟩

/-! ### Any comparison -/

/-- The code of a comparison, the field `k` of its opcode: the codes after those of the operations on A (R106, R310). -/
def cmpCode : CmpOp → Nat
  | .eq => 11
  | .lt => 12
  | .gt => 13

/-- The field `k` of the opcode is the code of the comparison, the field `z` that of the source (R106, R310). -/
theorem encode_ofCmp (k : CmpOp) (src : Src) :
    encode (Instr.ofCmp k src) = sourceEncoding (128 + 8 * cmpCode k) src := by
  cases src with
  | loc x => cases k <;> cases x <;> rfl
  | imm n => cases k <;> rfl

/-- A comparison is a write of its result to F. -/
theorem exec_ofCmp_wroteFlag {k : CmpOp} {src : Src} {s : State} {f : Bool}
    (h : cmpResult k s.vm.a (s.vm.readSrc src) = f) :
    ∃ z', exec (Instr.ofCmp k src) s = .next (s.setVm z') ∧ s.vm.WroteFlag f (s.vm.pc + sourceBytes src) z' := by
  rw [← srcLength_eq src]
  exact ⟨_, exec_ofCmp k src s, rfl, rfl, rfl, rfl, h, rfl, fun _ => rfl, fun _ => rfl, fun _ => rfl,
    s.vm.sameConfig_refl⟩

theorem cmpResult_eq (a v : Word) : cmpResult .eq a v = decide (a.toNat = v.toNat) :=
  decide_eq_decide.mpr BitVec.toNat_eq

theorem cmpResult_lt (a v : Word) : cmpResult .lt a v = decide (a.toNat < v.toNat) := rfl

theorem cmpResult_gt (a v : Word) : cmpResult .gt a v = decide (v.toNat < a.toNat) := rfl

/-! ### The three comparisons -/

/-- Settles O31: two words are equal exactly when their numbers are. -/
theorem equalResult : Obligations.EqualResult := fun src s =>
  ⟨encode_ofCmp .eq src, exec_ofCmp_wroteFlag (by rw [cmpResult_eq, s.vm.toNat_readSrc src])⟩

/-- Settles O32: the order is that of the unsigned numbers. -/
theorem lessResult : Obligations.LessResult := fun src s =>
  ⟨encode_ofCmp .lt src, exec_ofCmp_wroteFlag (by rw [cmpResult_lt, s.vm.toNat_readSrc src])⟩

/-- Settles O33: the order is that of `A<S` with the two sides exchanged. -/
theorem greaterResult : Obligations.GreaterResult := fun src s =>
  ⟨encode_ofCmp .gt src, exec_ofCmp_wroteFlag (by rw [cmpResult_gt, s.vm.toNat_readSrc src])⟩

end Sys2Proof.Machine
end

section
/-! PROOFS. The hash-row lookup `find` returns a probed row that holds the check byte, and clears the evicted row alone
(45_predictor_tables.md R400). -/

namespace Sys2Proof.Machine

/-! ### A row that is given to a new context -/

/-- A table after a row has been given its check byte and 15 zeros (R400). -/
def claimRow (ht : List Host.Cell) (row : Nat) (chk : Byte) : List Host.Cell :=
  pokeBytes ht row (chk :: List.replicate 15 0#8)

theorem peek_claimRow (ht : List Host.Cell) (row : Nat) (chk : Byte) (j : Nat) :
    peek 0#8 (claimRow ht row chk) j =
      if row ≤ j ∧ j < row + 16 then ((chk :: List.replicate 15 0#8)[j - row]?).getD 0#8 else peek 0#8 ht j :=
  peek_pokeBytes ht (chk :: List.replicate 15 0#8) row j

@[simp] theorem peek_claimRow_check (ht : List Host.Cell) (row : Nat) (chk : Byte) :
    peek 0#8 (claimRow ht row chk) row = chk := by
  simp [peek_claimRow]

theorem peek_claimRow_rest (ht : List Host.Cell) (row : Nat) (chk : Byte) {j : Nat} (h1 : 1 ≤ j) (h16 : j < 16) :
    peek 0#8 (claimRow ht row chk) (row + j) = 0#8 := by
  obtain ⟨i, rfl⟩ : ∃ i, j = i + 1 := ⟨j - 1, by omega⟩
  rw [peek_claimRow, if_pos (by omega), Nat.add_sub_cancel_left, List.getElem?_cons_succ,
    List.getElem?_replicate_of_lt (by omega), Option.getD_some]

theorem peek_claimRow_outside (ht : List Host.Cell) (row : Nat) (chk : Byte) {j : Nat} (h : j < row ∨ row + 16 ≤ j) :
    peek 0#8 (claimRow ht row chk) j = peek 0#8 ht j := by
  rw [peek_claimRow, if_neg (by omega)]

/-! ### What `find` returns -/

/-- The check byte is the next 8 bits of the context above those that number the home row. -/
theorem findCheck_eq_div (b cxt : Nat) : findCheck b cxt = BitVec.ofNat 8 (cxt / 2 ^ b) := by
  rw [findCheck, Nat.shiftRight_eq_div_pow]

/-- None of the rows probed has a lower priority than the one evicted. -/
theorem priority_findVictim_le (ht : List Host.Cell) (h0 h1 h2 : Nat) :
    ∀ h ∈ [h0, h1, h2], (peek 0#8 ht (findVictim ht h0 h1 h2 + 1)).toNat ≤ (peek 0#8 ht (h + 1)).toNat := by
  simp only [List.forall_mem_cons, List.not_mem_nil, false_imp_iff, implies_true, and_true]
  rcases findVictim_cases ht h0 h1 h2 with ⟨e, hle⟩ | ⟨e, hle⟩ | ⟨e, hle⟩ <;> rw [e]
  · exact ⟨le_rfl, hle⟩
  · exact ⟨hle.1.le, le_rfl, hle.2.le⟩
  · exact ⟨hle.2.le, hle.1, le_rfl⟩

section
variable (ht : List Host.Cell) (b cxt : Nat)

/-- The table has been left with a probed row that holds the check byte, or a probed row has been claimed. -/
theorem findRow_hit_or_claimed :
    (findRow ht b cxt).1 ∈ [findHome b cxt, findHome b cxt ^^^ 16, findHome b cxt ^^^ 32] ∧
    ((peek 0#8 ht (findRow ht b cxt).1 = findCheck b cxt ∧ (findRow ht b cxt).2 = ht) ∨
      (findRow ht b cxt).2 = claimRow ht (findRow ht b cxt).1 (findCheck b cxt)) := by
  rcases findRow_cases ht b cxt with ⟨hit, e⟩ | ⟨-, hit, e⟩ | ⟨-, -, hit, e⟩ | ⟨-, -, -, e⟩ <;> rw [e]
  · exact ⟨by simp, .inl ⟨hit, rfl⟩⟩
  · exact ⟨by simp, .inl ⟨hit, rfl⟩⟩
  · exact ⟨by simp, .inl ⟨hit, rfl⟩⟩
  · dsimp only
    exact ⟨by simpa using findVictim_mem ht (findHome b cxt) _ _, .inr (by rw [claimRow])⟩

/-- The row returned holds the check byte, as the row found or as the row claimed. -/
theorem peek_findRow_check : peek 0#8 (findRow ht b cxt).2 (findRow ht b cxt).1 = findCheck b cxt := by
  rcases (findRow_hit_or_claimed ht b cxt).2 with ⟨hit, e⟩ | e <;> rw [e]
  · exact hit
  · exact peek_claimRow_check ..

theorem peek_findRow_outside {j : Nat} (h : j < (findRow ht b cxt).1 ∨ (findRow ht b cxt).1 + 16 ≤ j) :
    peek 0#8 (findRow ht b cxt).2 j = peek 0#8 ht j := by
  rcases (findRow_hit_or_claimed ht b cxt).2 with ⟨-, e⟩ | e <;> rw [e]
  exact peek_claimRow_outside _ _ _ h

variable {ht b cxt}

theorem findRow_aligned_inside (hb : 2 ≤ b) :
    (findRow ht b cxt).1 % 16 = 0 ∧ (findRow ht b cxt).1 + 16 ≤ 16 * 2 ^ b := by
  obtain ⟨y, hy, hlt⟩ := probed_row hb (by simpa using (findRow_hit_or_claimed ht b cxt).1)
  omega

theorem findRow_of_hit_home (hit : peek 0#8 ht (findHome b cxt) = findCheck b cxt) :
    findRow ht b cxt = (findHome b cxt, ht) := if_pos hit

theorem findRow_of_hit_second (n0 : peek 0#8 ht (findHome b cxt) ≠ findCheck b cxt)
    (hit : peek 0#8 ht (findHome b cxt ^^^ 16) = findCheck b cxt) :
    findRow ht b cxt = (findHome b cxt ^^^ 16, ht) := (if_neg n0).trans (if_pos hit)

theorem findRow_of_hit_third (n0 : peek 0#8 ht (findHome b cxt) ≠ findCheck b cxt)
    (n1 : peek 0#8 ht (findHome b cxt ^^^ 16) ≠ findCheck b cxt)
    (hit : peek 0#8 ht (findHome b cxt ^^^ 32) = findCheck b cxt) :
    findRow ht b cxt = (findHome b cxt ^^^ 32, ht) := (if_neg n0).trans ((if_neg n1).trans (if_pos hit))

theorem findRow_of_miss (n0 : peek 0#8 ht (findHome b cxt) ≠ findCheck b cxt)
    (n1 : peek 0#8 ht (findHome b cxt ^^^ 16) ≠ findCheck b cxt)
    (n2 : peek 0#8 ht (findHome b cxt ^^^ 32) ≠ findCheck b cxt) :
    findRow ht b cxt =
      (findVictim ht (findHome b cxt) (findHome b cxt ^^^ 16) (findHome b cxt ^^^ 32),
        claimRow ht (findVictim ht (findHome b cxt) (findHome b cxt ^^^ 16) (findHome b cxt ^^^ 32)) (findCheck b cxt)) :=
  (if_neg n0).trans ((if_neg n1).trans (if_neg n2))

end

/-- Settles O50: the row is a probed one that is left as it is or claimed, and each outcome of the probes has its equation. -/
theorem findRowResult : Obligations.FindRowResult := by
  intro ht b cxt hb
  rw [← findCheck_eq_div]
  obtain ⟨haligned, hinside⟩ := findRow_aligned_inside (ht := ht) (cxt := cxt) hb
  refine ⟨(findRow_hit_or_claimed ht b cxt).1, haligned, hinside, peek_findRow_check ht b cxt,
    fun j => peek_findRow_outside ht b cxt, findRow_of_hit_home, findRow_of_hit_second, findRow_of_hit_third,
    fun n0 n1 n2 => ?_⟩
  rw [findRow_of_miss n0 n1 n2]
  dsimp only
  exact ⟨rfl, priority_findVictim_le ht _ _ _, fun _ => peek_claimRow_rest ht _ _⟩

end Sys2Proof.Machine
end

section
/-! Proofs about the coder beside the predictor (R462, R470 to R477, R507), `predict`'s frame (R429), `train` (R431), the
reload of the contexts (R463) and the component checks of `load` (R411 to R419). -/

namespace Sys2Proof.Machine

/-! ### The parts of the coder's range (R472, R473, R475) -/

/-- The split point lies in the range and below its top, so that both parts are non-empty (R472). -/
theorem Coder.mid_bounds {k : Coder} {p : Nat} (hlt : k.low.toNat < k.high.toNat) (hp : p < 65536) :
    k.low.toNat ≤ (k.mid p).toNat ∧ (k.mid p).toNat < k.high.toNat := by
  have hhigh := k.high.isLt
  obtain ⟨r, hr⟩ : ∃ r, r = k.high.toNat - k.low.toNat := ⟨_, rfl⟩
  have hmid : (k.mid p).toNat = (k.low.toNat + r / 65536 * p + r % 65536 * p / 65536) % 2 ^ 32 := by
    rw [hr]
    exact (BitVec.toNat_ofNat ..).trans (by
      rw [Nat.shiftRight_eq_div_pow, Nat.shiftRight_eq_div_pow, Nat.and_two_pow_sub_one_eq_mod _ 16])
  have hupper : r / 65536 * p ≤ r / 65536 * 65535 := Nat.mul_le_mul_left _ (by omega)
  have hlower : r % 65536 * p ≤ r % 65536 * 65535 := Nat.mul_le_mul_left _ (by omega)
  omega

theorem Coder.narrow_congr {e d : Coder} (hl : d.low = e.low) (hh : d.high = e.high) (y : Bool) (p : Nat) :
    (d.narrow y p).low = (e.narrow y p).low ∧ (d.narrow y p).high = (e.narrow y p).high := by
  have hmid : d.mid p = e.mid p := by rw [Coder.mid, Coder.mid, hl, hh]
  cases y
  · exact ⟨congrArg (· + 1) hmid, hh⟩
  · exact ⟨hl, hmid⟩

/-- A `curr` in the part of the bit `y` is in the range, and on the side of the split point that decodes as `y` (R475). -/
theorem Coder.bit_of_mem_part {k : Coder} {y : Bool} {p : Nat} (hlt : k.low.toNat < k.high.toNat) (hp : p < 65536)
    (hlo : (k.narrow y p).low.toNat ≤ k.curr.toNat) (hhi : k.curr.toNat ≤ (k.narrow y p).high.toNat) :
    k.inRange = true ∧ decide (k.curr ≤ k.mid p) = y := by
  obtain ⟨hmlo, hmhi⟩ := Coder.mid_bounds hlt hp
  have hhigh := k.high.isLt
  cases y with
  | false =>
    have hsplit : (k.mid p + 1).toNat ≤ k.curr.toNat := hlo
    have htop : k.curr.toNat ≤ k.high.toNat := hhi
    have hsucc : (k.mid p + 1).toNat = (k.mid p).toNat + 1 := by
      rw [BitVec.toNat_add]; exact Nat.mod_eq_of_lt (by simp; omega)
    simp only [Coder.inRange, Bool.and_eq_true, decide_eq_true_eq, decide_eq_false_iff_not, BitVec.le_def]
    omega
  | true =>
    have hbottom : k.low.toNat ≤ k.curr.toNat := hlo
    have hsplit : k.curr.toNat ≤ (k.mid p).toNat := hhi
    simp only [Coder.inRange, Bool.and_eq_true, decide_eq_true_eq, BitVec.le_def]
    omega

/-- `decode` of a coder whose `curr` lies in the part of the bit that a coder with its `low` and `high` encodes: it gives
that bit and again the same `low` and `high` (R507). -/
theorem Coder.decode_of_mem_part {e d : Coder} {y : Bool} {p : Nat} {input : List Byte} (hl : d.low = e.low)
    (hh : d.high = e.high) (hlt : e.low.toNat < e.high.toNat) (hp : p < 65536)
    (hlo : (e.narrow y p).low.toNat ≤ d.curr.toNat) (hhi : d.curr.toNat ≤ (e.narrow y p).high.toNat)
    (hin : 4 ≤ input.length) :
    ∃ d' rest, d.decode p input = .bit y d' rest ∧ d'.low = (e.encode y p).1.low ∧ d'.high = (e.encode y p).1.high := by
  obtain ⟨hnl, hnh⟩ := Coder.narrow_congr hl hh y p
  obtain ⟨hrange, hbit⟩ := Coder.bit_of_mem_part (k := d) (by rwa [hl, hh]) hp (by rwa [hnl]) (by rwa [hnh])
  obtain ⟨d', hd', hl', hh'⟩ := Coder.renormDecode_eq 4 (e.narrow y p) (d.narrow y p) input hnl hnh
    ((Coder.renormEncode_length 4 _).trans hin)
  have hdecode : d.decode p input = .bit y d' (input.drop (Coder.renormEncode 4 (e.narrow y p)).2.length) := by
    simp only [Coder.decode, hrange, if_true, hbit, hd']
  exact ⟨d', _, hdecode, hl', hh'⟩

/-! ### An encoding and a decoding core over one bit (R462, R507) -/

/-- The probability of a data bit is below 65536 (R471). -/
theorem dataProb_lt (q : Predictor) : 2 * q.p1 + 1 < 65536 := by
  have : q.p1 ≤ 32767 := squash_le _
  omega

/-- `update` of the same bit in two states with the same predictor and HCOMP: the same predictor and HCOMP again, and a `run`
begun in both or in neither (R430, R462). -/
theorem State.update_lockstep {s t : State} (hpred : s.pred = t.pred) (hhcomp : s.hcomp = t.hcomp) (y : Bool)
    (ns nt : Task) :
    (s.update y ns).pred = (t.update y nt).pred ∧ (s.update y ns).hcomp = (t.update y nt).hcomp ∧
      (((s.update y ns).phase = .work ns ∧ (t.update y nt).phase = .work nt) ∨
        ((s.update y ns).phase = .run ns ∧ (s.update y ns).inst = .hcomp ∧ (t.update y nt).inst = .hcomp ∧
          (t.update y nt).phase = .run nt)) := by
  rcases s.update_cases y ns with ⟨hs, es⟩ | ⟨hs, es⟩ <;> rcases t.update_cases y nt with ⟨ht, et⟩ | ⟨ht, et⟩ <;>
    rw [hpred] at hs es
  · rw [es, et, hhcomp]; exact ⟨rfl, rfl, .inr ⟨rfl, rfl, rfl, rfl⟩⟩
  · exact absurd hs (Nat.not_le.mpr ht)
  · exact absurd ht (Nat.not_le.mpr hs)
  · rw [es, et]; exact ⟨rfl, hhcomp, .inl ⟨rfl, rfl⟩⟩

/-- The step that codes a bit (R478). -/
theorem step_encodeBits {s : State} {c : Byte} {k : Nat} (hf : s.fault = none)
    (hp : s.phase = .work (.encodeBits c (k + 1))) :
    step s = .next ((s.predict.encodeBit (c.getLsbD k) (2 * s.pred.predict.p1 + 1)).update (c.getLsbD k)
      (.encodeBits c k)) :=
  step_work hf hp

/-- The step that decodes a bit, when the `decode` gives one (R480). -/
theorem step_decodeBits {s : State} {v : BitVec 9} {y : Bool} {coder : Coder} {rest : List Byte} (hf : s.fault = none)
    (hp : s.phase = .work (.decodeBits v)) (hv : v.toNat < 256)
    (hbit : s.coder.decode (2 * s.pred.predict.p1 + 1) s.reader = .bit y coder rest) :
    step s = .next ({ s.predict with coder := coder, reader := rest }.update y
      (.decodeBits (BitVec.ofNat 9 (2 * v.toNat + y.toNat)))) := by
  rw [step_work hf hp]
  exact congrArg Host.Outcome.next
    ((decodeBits_of_lt hv s).trans (State.decodeBit_bit (s := s.predict) (p := s.predict.dataProb) hbit _))

/-- Settles O47: the decoder's bit is the encoder's, and both cores `update` the same predictor with it. -/
theorem lockstepBit : Obligations.LockstepBit := by
  intro e d c k v hfe hfd hpe hpd hv hpred hhcomp hl hh hlt hlo hhi hin
  obtain ⟨coder, rest, hbit, hl', hh'⟩ :=
    Coder.decode_of_mem_part hl.symm hh.symm hlt (dataProb_lt _) hlo hhi hin
  rw [hpred] at hbit
  have hpred' : e.pred.predict = d.pred.predict := congrArg Predictor.predict hpred
  obtain ⟨hp, hz, hphase⟩ := State.update_lockstep
    (s := e.predict.encodeBit (c.getLsbD k) (2 * e.pred.predict.p1 + 1))
    (t := { d.predict with coder := coder, reader := rest }) hpred' hhcomp (c.getLsbD k) (.encodeBits c k)
    (.decodeBits (BitVec.ofNat 9 (2 * v.toNat + (c.getLsbD k).toNat)))
  refine ⟨_, _, step_encodeBits hfe hpe, step_decodeBits hfd hpd hv hbit, hp, hz, ?_, ?_, hphase⟩
  · rw [State.coder_update, State.coder_update]; exact hl'.symm
  · rw [State.coder_update, State.coder_update]; exact hh'.symm

/-! ### What `predict` leaves (R429) -/

/-- Component `j` of the list after `predict` is `predictOne` of component `j` before. -/
theorem predictFrom_getElem? (h : List (Nat × Word)) (c8 hmap4 i : Nat) (ks : List Component) (p : List (Nat × Int))
    {j : Nat} {k : Component} (hk : ks[j]? = some k) :
    ∃ x, (predictFrom h c8 hmap4 i ks p).1[j]? = some (predictOne x k).1 := by
  induction ks generalizing i p j with
  | nil => simp at hk
  | cons k0 ks ih =>
    cases j with
    | zero =>
      obtain rfl : k0 = k := by simpa using hk
      exact ⟨_, rfl⟩
    | succ j => exact ih (i + 1) _ (by simpa using hk)

/-- Settles O48: `predictOne` writes `cxt`, `c` and `ht` alone. -/
theorem predictLeavesTables : Obligations.PredictLeavesTables := by
  intro q
  refine ⟨rfl, rfl, rfl, predictFrom_length .., fun i k k' hk hk' => ?_⟩
  obtain ⟨x, hx⟩ := predictFrom_getElem? q.h q.c8.toNat q.hmap4.toNat 0 q.comps q.p hk
  obtain rfl : (predictOne x k).1 = k' := Option.some.inj (hx.symm.trans hk')
  obtain ⟨cxt, top, c, ht, e⟩ := predictOne_frame x k
  rw [e]
  exact ⟨rfl, rfl, rfl, rfl, rfl, rfl⟩

/-! ### `train` (R431) -/

/-- A trained cell as one sum: the old cell, 1024 times the move of its prediction, and 1 while below the ceiling. -/
theorem toNat_trainCell (pn : Word) (limit : Nat) (y : Bool) :
    ((trainCell pn limit y).toNat : Int) =
      ((pn.toNat : Int) + 1024 *
        (((if y then 32767 else 0) - ((pn.toNat / 131072 : Nat) : Int)) * (dt (pn.toNat % 1024) : Int) / 1024) +
        (if pn.toNat % 1024 < limit then 1 else 0)) % 4294967296 := by
  have hcount : pn.toNat &&& 0x3FF = pn.toNat % 1024 := Nat.and_two_pow_sub_one_eq_mod _ 10
  have hbit : bitInt y * ((32767 : Nat) : Int) = if y = true then 32767 else 0 := by cases y <;> rfl
  have hword : ∀ v : Int, ((u32 v).toNat : Int) = v % 4294967296 := fun v => by
    simp only [u32, BitVec.toNat_ofInt]; omega
  simp only [trainCell, floorShift, hcount, hbit, hword, Nat.shiftRight_eq_div_pow]
  norm_num

/-- A word whose low ten bits become `count` and whose other 22 bits move by `move` keeps the two apart. -/
theorem split_cell {n m count : Nat} {move : Int} (hcount : count < 1024)
    (h : (n : Int) = (1024 * ((m / 1024 : Nat) : Int) + 1024 * move + count) % 4294967296) :
    n % 1024 = count ∧ ((n / 1024 : Nat) : Int) = (((m / 1024 : Nat) : Int) + move) % 4194304 := by
  omega

/-- Settles O49: a count of at most 1020 carries nothing into the prediction. -/
theorem trainResult : Obligations.TrainResult := by
  intro pn limit y hlimit
  refine split_cell (by split_ifs <;> omega) ((toNat_trainCell pn limit y).trans ?_)
  congr 1
  split_ifs <;> omega

/-! ### The reload of the contexts (R463) -/

/-- Settles O52: the return from HCOMP's `run` reloads `h[0 .. n-1]`. -/
theorem contextsReloaded : Obligations.ContextsReloaded := by
  intro s next hf hp hi
  have hreturn : s.returnRun next = { s with pred := s.pred.nextByte s.hcomp, phase := .work next } := by
    simp only [State.returnRun, hi]
  have hread : ∀ i, peek 0#32 (s.pred.nextByte s.hcomp).h i =
      if i < s.pred.comps.length then s.hcomp.readH (i % 2 ^ s.hcomp.hbits) else peek 0#32 s.pred.h i := fun i => by
    simpa [Zpaql.hsize, Predictor.nextByte] using peek_reloadFrom s.hcomp 0 s.pred.comps.length s.pred.h i
  refine ⟨_, step_halted hf hp, ?_⟩
  rw [hreturn]
  exact ⟨rfl, rfl, fun i h => (hread i).trans (if_pos h), fun i h => (hread i).trans (if_neg (Nat.not_lt.mpr h)),
    rfl, rfl, rfl, rfl⟩

/-! ### The component checks (R411 to R419) -/

theorem oversize_eq_none_iff (caps : Caps) (d : CompDesc) : oversize caps d = none ↔ d.sizesWithin caps = true := by
  cases d with
  | matchModel s b =>
    simp only [oversize, CompDesc.sizesWithin]
    split_ifs <;> simp <;> omega
  | _ => simp [oversize, CompDesc.sizesWithin]

theorem checkArgs_eq_none_iff (i : Nat) (d : CompDesc) :
    checkArgs i d = none ↔ d.refersBelow i = true ∧ d.countsWithin = true := by
  cases d with
  | mix s j m rate mask =>
    simp only [checkArgs, CompDesc.refersBelow, CompDesc.countsWithin]
    split_ifs <;> simp <;> omega
  | sse s j start limit =>
    simp only [checkArgs, CompDesc.refersBelow, CompDesc.countsWithin]
    split_ifs <;> simp <;> omega
  | _ => simp [checkArgs, CompDesc.refersBelow, CompDesc.countsWithin]

/-- The checks of one component pass exactly when its descriptor is well formed (R412 to R419). -/
theorem checkComponent_eq_none_iff (caps : Caps) (i : Nat) (d : CompDesc) :
    checkComponent caps i d = none ↔ d.wellFormed caps i = true := by
  rw [CompDesc.wellFormed, Bool.and_eq_true, Bool.and_eq_true, and_assoc, ← oversize_eq_none_iff,
    ← checkArgs_eq_none_iff, checkComponent]
  cases oversize caps d <;> simp

theorem checkComponents_cons_of_none {caps : Caps} {i : Nat} {d : CompDesc} (h : checkComponent caps i d = none)
    (ds : List CompDesc) : checkComponents caps i (d :: ds) = checkComponents caps (i + 1) ds := by
  simp only [checkComponents, h]

theorem checkComponents_cons_of_some {caps : Caps} {i : Nat} {d : CompDesc} {f : CoreFault}
    (h : checkComponent caps i d = some f) (ds : List CompDesc) : checkComponents caps i (d :: ds) = some f := by
  simp only [checkComponents, h]

theorem checkComponents_eq_none_iff (caps : Caps) (i : Nat) (ds : List CompDesc) :
    checkComponents caps i ds = none ↔ wellFormedFrom caps i ds = true := by
  induction ds generalizing i with
  | nil => exact ⟨fun _ => rfl, fun _ => rfl⟩
  | cons d ds ih =>
    rw [wellFormedFrom, Bool.and_eq_true, ← checkComponent_eq_none_iff, ← ih]
    cases h : checkComponent caps i d with
    | none => simp [checkComponents_cons_of_none h]
    | some f => simp [checkComponents_cons_of_some h]

/-- The fault reported is that of a component all of whose predecessors are well formed (R411). -/
theorem checkComponents_eq_some_iff (caps : Caps) (i : Nat) (ds : List CompDesc) (f : CoreFault) :
    checkComponents caps i ds = some f ↔
      ∃ j d, ds[j]? = some d ∧ checkComponent caps (i + j) d = some f ∧
        ∀ m d', m < j → ds[m]? = some d' → d'.wellFormed caps (i + m) = true := by
  induction ds generalizing i with
  | nil => simp [checkComponents]
  | cons d ds ih =>
    cases h : checkComponent caps i d with
    | some g =>
      rw [checkComponents_cons_of_some h, Option.some.injEq]
      constructor
      · rintro rfl
        exact ⟨0, d, rfl, h, nofun⟩
      · rintro ⟨j, d1, hd1, hf, hbelow⟩
        cases j with
        | zero =>
          obtain rfl : d = d1 := by simpa using hd1
          exact Option.some.inj (h.symm.trans hf)
        | succ j =>
          have hwf := (checkComponent_eq_none_iff caps i d).mpr (hbelow 0 d (Nat.succ_pos j) rfl)
          rw [h] at hwf
          cases hwf
    | none =>
      have hnext : ∀ m, i + 1 + m = i + (m + 1) := fun m => by omega
      rw [checkComponents_cons_of_none h, ih]
      simp only [hnext]
      constructor
      · rintro ⟨j, d1, hd1, hf, hbelow⟩
        refine ⟨j + 1, d1, hd1, hf, fun m d' hm hd' => ?_⟩
        cases m with
        | zero =>
          obtain rfl : d = d' := by simpa using hd'
          exact (checkComponent_eq_none_iff caps i d).mp h
        | succ m => exact hbelow m d' (Nat.lt_of_succ_lt_succ hm) hd'
      · rintro ⟨j, d1, hd1, hf, hbelow⟩
        cases j with
        | zero =>
          obtain rfl : d = d1 := by simpa using hd1
          rw [Nat.add_zero, h] at hf
          cases hf
        | succ j => exact ⟨j, d1, hd1, hf, fun m d' hm => hbelow (m + 1) d' (Nat.succ_lt_succ hm)⟩

/-- Settles O54, by induction on the list from any first number. -/
theorem componentChecks : Obligations.ComponentChecks := by
  intro caps ds
  refine ⟨checkComponents_eq_none_iff caps 0 ds, fun f => ?_⟩
  simpa only [Nat.zero_add] using checkComponents_eq_some_iff caps 0 ds f

end Sys2Proof.Machine
end

section
/-! Proofs about the coder by itself: the exact split (R472), the bounds that every step keeps (R484), the four bytes of the
end-of-segment flag (R479), and the decoder recovering what the encoder coded (R470, R477, R482, R507); and about requests
that are refused (R504). -/

namespace Sys2Proof.Machine

/-! ### The split and its parts (R472, R473) -/

theorem Coder.mid_eq (k : Coder) (p : Nat) :
    k.mid p = BitVec.ofNat 32 (k.low.toNat + (k.high.toNat - k.low.toNat) * p / 65536) := by
  obtain ⟨r, hr⟩ : ∃ r, r = k.high.toNat - k.low.toNat := ⟨_, rfl⟩
  have hsplit : r * p = r % 65536 * p + 65536 * (r / 65536 * p) := by
    rw [← Nat.mul_assoc, ← Nat.add_mul, Nat.mod_add_div]
  rw [Coder.mid, ← hr, hsplit, Nat.add_mul_div_left _ _ (by decide)]
  simp only [Nat.shiftRight_eq_div_pow, Nat.and_two_pow_sub_one_eq_mod _ 16, Nat.reducePow]
  congr 1
  omega

/-- Settles O44: the product is at most `r * 65536`, so nothing is lost modulo `2^32`. -/
theorem splitPoint : Obligations.SplitPoint := by
  intro k p hlt hp
  refine ⟨?_, Coder.mid_bounds hlt hp⟩
  have hhigh := k.high.isLt
  have hpart : (k.high.toNat - k.low.toNat) * p / 65536 ≤ k.high.toNat - k.low.toNat :=
    Nat.div_le_of_le_mul (by rw [Nat.mul_comm]; exact Nat.mul_le_mul_right _ hp.le)
  rw [Coder.mid_eq, BitVec.toNat_ofNat, Nat.mod_eq_of_lt (by omega)]

/-- The part of either bit is not empty and lies in the range. -/
theorem Coder.narrow_part {k : Coder} {p : Nat} (hlt : k.low.toNat < k.high.toNat) (hp : p < 65536) (y : Bool) :
    k.low.toNat ≤ (k.narrow y p).low.toNat ∧ (k.narrow y p).low.toNat ≤ (k.narrow y p).high.toNat ∧
      (k.narrow y p).high.toNat ≤ k.high.toNat := by
  obtain ⟨hmlo, hmhi⟩ := Coder.mid_bounds hlt hp
  cases y with
  | false =>
    have hsucc : (k.mid p + 1).toNat = (k.mid p).toNat + 1 := by bv_omega
    simp only [Coder.narrow, Bool.false_eq_true, if_false, hsucc]
    omega
  | true =>
    simp only [Coder.narrow, if_true]
    omega

@[simp] theorem Coder.narrow_curr (k : Coder) (y : Bool) (p : Nat) : (k.narrow y p).curr = k.curr := by
  cases y <;> rfl

/-! ### The bounds after renormalisation (R484) -/

theorem Coder.renormEncode_of_sameTop {k : Coder} (h : k.sameTop = true) (fuel : Nat) :
    Coder.renormEncode (fuel + 1) k =
      ((Coder.renormEncode fuel k.shift).1, k.topByte :: (Coder.renormEncode fuel k.shift).2) := if_pos h

theorem Coder.renormEncode_of_not_sameTop {k : Coder} (h : ¬ k.sameTop = true) (fuel : Nat) :
    Coder.renormEncode fuel k = (k, []) := by
  cases fuel with
  | zero => rfl
  | succ n => exact if_neg h

/-- What a coder keeps between the narrowing and the end of the loop, where `low = high` is possible. -/
def Coder.Ordered (k : Coder) : Prop := 1 ≤ k.low.toNat ∧ k.low.toNat ≤ k.high.toNat

theorem Coder.ordered_narrow {k : Coder} {p : Nat} (h : k.Bounds) (hp : p < 65536) (y : Bool) :
    (k.narrow y p).Ordered := by
  obtain ⟨hpos, hlt, -⟩ := h
  obtain ⟨hlow, hle, -⟩ := Coder.narrow_part hlt hp y
  exact ⟨hpos.trans hlow, hle⟩

theorem Coder.ordered_shift {k : Coder} (h : k.Ordered) (htop : k.sameTop = true) : k.shift.Ordered := by
  rw [Coder.sameTop_iff] at htop
  obtain ⟨-, hle⟩ := h
  unfold Coder.Ordered
  rw [Coder.shift_high, Coder.shift_low]
  split <;> omega

/-- Where the loop stops, the bounds hold. -/
theorem Coder.Ordered.bounds {k : Coder} (h : k.Ordered) (htop : ¬ k.sameTop = true) : k.Bounds := by
  obtain ⟨hpos, hle⟩ := h
  have hxor : 0x1000000 ≤ (k.high ^^^ k.low).toNat := by simpa [Coder.sameTop] using htop
  rw [Coder.sameTop_iff] at htop
  exact ⟨hpos, by omega, hxor⟩

/-- The measure of the loop's progress: it grows with `high - low`, and 254 is its value at `low = high`. -/
def Coder.spread (k : Coder) : Nat := 255 * (k.high.toNat - k.low.toNat) + 254

/-- A turn multiplies the spread by 256, even where `low` becomes 1 in place of 0. -/
theorem Coder.spread_shift {k : Coder} (h : k.Ordered) (htop : k.sameTop = true) :
    256 * k.spread ≤ k.shift.spread := by
  rw [Coder.sameTop_iff] at htop
  obtain ⟨-, hle⟩ := h
  unfold Coder.spread
  rw [Coder.shift_high, Coder.shift_low]
  split <;> omega

theorem Coder.spread_lt_of_sameTop {k : Coder} (htop : k.sameTop = true) : k.spread < 255 * 2 ^ 24 := by
  rw [Coder.sameTop_iff] at htop
  unfold Coder.spread
  omega

/-- The loop ends with the bounds when its turns suffice for the spread (R484 b, c). -/
theorem Coder.bounds_renormEncode (fuel : Nat) {k : Coder} (h : k.Ordered)
    (hfuel : 255 * 2 ^ 24 ≤ k.spread * 256 ^ fuel) : (Coder.renormEncode fuel k).1.Bounds := by
  induction fuel generalizing k with
  | zero => exact h.bounds fun htop => absurd (Coder.spread_lt_of_sameTop htop) (by omega)
  | succ n ih =>
    by_cases htop : k.sameTop = true
    · rw [Coder.renormEncode_of_sameTop htop]
      refine ih (Coder.ordered_shift h htop) ?_
      calc 255 * 2 ^ 24 ≤ k.spread * 256 ^ (n + 1) := hfuel
        _ = 256 * k.spread * 256 ^ n := by rw [Nat.pow_succ]; ring
        _ ≤ k.shift.spread * 256 ^ n := Nat.mul_le_mul_right _ (Coder.spread_shift h htop)
    · rw [Coder.renormEncode_of_not_sameTop htop]
      exact h.bounds htop

/-- Four turns suffice for every range. -/
theorem Coder.bounds_encode {k : Coder} {p : Nat} (h : k.Bounds) (hp : p < 65536) (y : Bool) :
    (k.encode y p).1.Bounds := by
  refine Coder.bounds_renormEncode 4 (Coder.ordered_narrow h hp y) ?_
  unfold Coder.spread
  omega

theorem Coder.bounds_congr {e d : Coder} (hl : d.low = e.low) (hh : d.high = e.high) (h : e.Bounds) : d.Bounds := by
  unfold Coder.Bounds
  rwa [hl, hh]

/-! ### The bytes a decoding coder looks at (R476, R481) -/

/-- The four bytes of a word, the most significant first. -/
def bytesOf (x : Word) : List Byte :=
  [(x >>> 24).setWidth 8, (x >>> 16).setWidth 8, (x >>> 8).setWidth 8, x.setWidth 8]

/-- The number that the first four bytes of a list make, the most significant first; 0 stands for a missing byte. -/
def lead (w : List Byte) : Nat :=
  2 ^ 24 * (w.getD 0 0).toNat + 2 ^ 16 * (w.getD 1 0).toNat + 2 ^ 8 * (w.getD 2 0).toNat + (w.getD 3 0).toNat

/-- The bytes a decoding coder has not used up: the four in `curr`, then the Reader's. -/
def Coder.ahead (k : Coder) (input : List Byte) : List Byte := bytesOf k.curr ++ input

@[simp] theorem length_bytesOf (x : Word) : (bytesOf x).length = 4 := rfl

@[simp] theorem Coder.length_ahead (k : Coder) (input : List Byte) : (k.ahead input).length = 4 + input.length :=
  List.length_append ..

theorem lead_cons (b : Byte) (w : List Byte) : lead (b :: w) = 2 ^ 24 * b.toNat + lead w / 2 ^ 8 := by
  have := (w.getD 3 0).isLt
  simp only [lead, List.getD_cons_zero, List.getD_cons_succ]
  omega

/-- Four bytes are those of a word exactly when they make its number. -/
theorem bytesOf_eq_iff (x : Word) (a b c d : Byte) : bytesOf x = [a, b, c, d] ↔ x.toNat = lead [a, b, c, d] := by
  have := x.isLt
  have := a.isLt
  have := b.isLt
  have := c.isLt
  have := d.isLt
  simp only [bytesOf, lead, List.getD_cons_zero, List.getD_cons_succ, List.cons.injEq, and_true, ← BitVec.toNat_inj,
    BitVec.toNat_setWidth, BitVec.toNat_ushiftRight, Nat.shiftRight_eq_div_pow]
  omega

theorem lead_bytesOf_append (x : Word) (w : List Byte) : lead (bytesOf x ++ w) = x.toNat :=
  ((bytesOf_eq_iff x _ _ _ _).mp rfl).symm

theorem Coder.lead_ahead (k : Coder) (input : List Byte) : lead (k.ahead input) = k.curr.toNat :=
  lead_bytesOf_append ..

/-- A byte that enters `curr` moves the coder one byte on. -/
theorem Coder.ahead_pull (k : Coder) (b : Byte) (rest : List Byte) :
    (k.pull b).ahead rest = (k.ahead (b :: rest)).drop 1 := by
  have hbytes : bytesOf (k.pull b).curr =
      [(k.curr >>> 16).setWidth 8, (k.curr >>> 8).setWidth 8, k.curr.setWidth 8, b] := by
    have hcurr : k.curr.toNat = lead (bytesOf k.curr) := (bytesOf_eq_iff k.curr _ _ _ _).mp rfl
    rw [bytesOf_eq_iff, Coder.pull_curr, hcurr]
    have h0 := ((k.curr >>> 16).setWidth 8).isLt
    have h1 := ((k.curr >>> 8).setWidth 8).isLt
    have h2 := (k.curr.setWidth 8).isLt
    simp only [bytesOf, lead, List.getD_cons_zero, List.getD_cons_succ]
    omega
  rw [Coder.ahead, hbytes]
  rfl

/-- A load of `count` bytes that are there moves the coder `count` bytes on. -/
theorem Coder.loadCurr_of_le {count : Nat} (k : Coder) {input : List Byte} (h : count ≤ input.length) :
    ∃ d, Coder.loadCurr count k input = (d, input.drop count, true) ∧
      d.ahead (input.drop count) = (k.ahead input).drop count := by
  induction count generalizing k input with
  | zero => exact ⟨k, rfl, rfl⟩
  | succ n ih =>
    cases input with
    | nil => simp at h
    | cons b rest =>
      obtain ⟨d, hd, hahead⟩ := ih (k.pull b) (Nat.le_of_succ_le_succ h)
      refine ⟨d, hd, hahead.trans ?_⟩
      rw [Coder.ahead_pull, List.drop_drop, Nat.add_comm]

/-- What a decoder's loop that does not run out of bytes has done: the turns of the encoder's loop on a coder with the same
`low` and `high`, one byte on for each byte that the encoder emits. -/
theorem Coder.renormDecode_some {fuel : Nat} {e d k : Coder} {input rest : List Byte} (hl : d.low = e.low)
    (hh : d.high = e.high) (h : Coder.renormDecode fuel d input = some (k, rest)) :
    k.low = (Coder.renormEncode fuel e).1.low ∧ k.high = (Coder.renormEncode fuel e).1.high ∧
      k.ahead rest = (d.ahead input).drop (Coder.renormEncode fuel e).2.length := by
  induction fuel generalizing e d input with
  | zero => cases h; exact ⟨hl, hh, rfl⟩
  | succ n ih =>
    have hs : d.sameTop = e.sameTop := by rw [Coder.sameTop, Coder.sameTop, hl, hh]
    unfold Coder.renormDecode at h
    rw [hs] at h
    by_cases htop : e.sameTop = true
    · rw [if_pos htop] at h
      cases input with
      | nil => cases h
      | cons b tail =>
        obtain ⟨hkl, hkh, hahead⟩ := ih (e := e.shift) (d := d.shift.pull b) (by simp [Coder.shift, hl])
          (by simp [Coder.shift, hh]) h
        rw [Coder.renormEncode_of_sameTop htop]
        refine ⟨hkl, hkh, hahead.trans ?_⟩
        rw [Coder.ahead_pull, List.drop_drop, List.length_cons, Nat.add_comm]
        rfl
    · rw [if_neg htop] at h
      cases h
      rw [Coder.renormEncode_of_not_sameTop htop]
      exact ⟨hl, hh, rfl⟩

/-- A `decode` that gives a bit does what the `encode` of that bit does to a coder with the same `low` and `high`, and goes
one byte on for each byte emitted (R475, R476). -/
theorem Coder.decode_follows_encode {e d k : Coder} {p : Nat} {y : Bool} {input rest : List Byte} (hl : d.low = e.low)
    (hh : d.high = e.high) (h : d.decode p input = .bit y k rest) :
    k.low = (e.encode y p).1.low ∧ k.high = (e.encode y p).1.high ∧
      k.ahead rest = (d.ahead input).drop (e.encode y p).2.length := by
  unfold Coder.decode at h
  split at h
  · dsimp only at h
    split at h
    · next k' rest' hrenorm =>
      cases h
      obtain ⟨hnl, hnh⟩ := Coder.narrow_congr hl hh (decide (d.curr ≤ d.mid p)) p
      simpa [Coder.ahead, Coder.encode] using Coder.renormDecode_some hnl hnh hrenorm
    · cases h
  · cases h

theorem Coder.bounds_decode {d k : Coder} {p : Nat} {y : Bool} {input rest : List Byte} (h : d.Bounds) (hp : p < 65536)
    (hbit : d.decode p input = .bit y k rest) : k.Bounds := by
  obtain ⟨hl, hh, -⟩ := Coder.decode_follows_encode rfl rfl hbit
  exact Coder.bounds_congr hl hh (Coder.bounds_encode h hp y)

/-! ### What any step does to the coder (R484) -/

theorem Reaches.coder {s t : State} {z' : Zpaql} (h : Reaches s z' (.next t)) : t.coder = s.coder := by
  rcases h with h | ⟨f, h⟩ | h | ⟨b, h⟩ <;> cases h <;> exact s.coder_setVm z'

theorem State.coder_raiseFetch (s : State) (e : DecodeError) : (s.raiseFetch e).coder = s.coder := by
  cases e with
  | endsAfter got => exact s.coder_setVm _

theorem State.coder_returnRun (s : State) (next : Task) : (s.returnRun next).coder = s.coder := by
  cases hi : s.inst <;> simp only [State.returnRun, hi]

theorem coder_afterFlag (y : Bool) (s : State) : (afterFlag y s).coder = s.coder := by
  rcases afterFlag_cases y s with ⟨-, -, e⟩ | ⟨-, -, e⟩ | ⟨-, e⟩ <;> rw [e]
  rfl

/-- A `load` resets the coder, whether its checks pass or not (R560). -/
theorem State.coder_load (s : State) (role : Role) (bytes : List Byte) : (s.load role bytes).coder = .reset := by
  rcases s.load_cases role bytes with ⟨x, -, e⟩ | ⟨f, -, e⟩ <;> rw [e]
  · rfl
  · rw [State.coder_raise]
    rcases s.builtBeforeFault_cases role bytes with ⟨e, -, he⟩ | ⟨x, f, -, -, he⟩ | ⟨x, -, -, he⟩ <;> rw [he] <;> rfl

/-- A `decode` keeps the bounds; a fault leaves the coder as it was (log 9). -/
theorem State.bounds_decodeBit {s : State} {p : Nat} {k : Bool → State → State} (h : s.coder.Bounds) (hp : p < 65536)
    (hk : ∀ (y : Bool) (u : State), (k y u).coder = u.coder) : (s.decodeBit p k).coder.Bounds := by
  rcases s.decodeBit_cases p k with ⟨y, c, rest, hbit, e⟩ | e | e <;> rw [e]
  · rw [hk]
    exact Coder.bounds_decode h hp hbit
  · exact h
  · exact h

theorem bounds_decodeFlag {s : State} (h : s.coder.Bounds) : (decodeFlag s).coder.Bounds := by
  have hload : ∀ {c rest ok}, Coder.loadCurr 4 s.coder s.reader = (c, rest, ok) → c.Bounds := by
    intro c rest ok e
    obtain ⟨hl, hh⟩ := Coder.loadCurr_range 4 s.coder s.reader
    rw [e] at hl hh
    exact Coder.bounds_congr hl hh h
  rcases decodeFlag_cases s with ⟨-, e⟩ | ⟨c, rest, -, hc, e⟩ | ⟨c, rest, -, hc, e⟩ <;> rw [e]
  · exact State.bounds_decodeBit h (by decide) coder_afterFlag
  · exact State.bounds_decodeBit (s := { s with coder := c, reader := rest }) (hload hc) (by decide) coder_afterFlag
  · exact hload hc

theorem bounds_decodeBits {s : State} (h : s.coder.Bounds) (v : BitVec 9) : (decodeBits v s).coder.Bounds := by
  unfold decodeBits
  split
  · exact h
  · exact State.bounds_decodeBit (s := s.predict) h (dataProb_lt _) fun y u => u.coder_update y _

/-- A part of an operation keeps the bounds: the flag and the data bits are all it codes or decodes. -/
theorem State.bounds_work {s : State} (h : s.coder.Bounds) (task : Task) : (s.work task).coder.Bounds := by
  cases task with
  | encodeFlag c => exact Coder.bounds_encode h (by decide) false
  | encodeBits c left =>
    cases left with
    | zero => exact h
    | succ k =>
      have hcoder : (s.work (.encodeBits c (k + 1))).coder = (s.coder.encode (c.getLsbD k) s.predict.dataProb).1 :=
        State.coder_update ..
      rw [hcoder]
      exact Coder.bounds_encode h (dataProb_lt _) _
  | encodeEos => exact Coder.bounds_encode h (by decide) true
  | decodeFlag => exact bounds_decodeFlag h
  | decodeBits v => exact bounds_decodeBits h v
  | write sym =>
    obtain ⟨-, -, hcoder, -⟩ := s.ppWrite_frame sym
    exact hcoder ▸ h
  | finish r => exact h

/-- A request keeps the coder, or is a `load`. -/
theorem State.bounds_serve {s : State} (h : s.coder.Bounds) (q : Request) : (s.serve q).coder.Bounds := by
  rcases s.serve_cases q with ⟨role, bytes, -, e⟩ | ⟨task, -, -, e, -⟩ | e | ⟨bytes, e⟩ | ⟨out, sum, e⟩ <;> rw [e]
  · rw [State.coder_load]
    obtain ⟨-, hreset, -⟩ := resetHasInvariants
    exact hreset
  all_goals exact h

/-- Settles O38: a step codes or decodes one bit, loads, or leaves `low` and `high` alone. -/
theorem coderBoundsKept : Obligations.CoderBoundsKept := by
  intro s t hs h
  rcases step_next_cases h with ⟨next, i, -, -, he⟩ | ⟨next, e, -, -, rfl⟩ | ⟨next, -, -, rfl⟩ |
    ⟨task, -, -, rfl⟩ | ⟨q, rest, -, -, rfl⟩ | ⟨-, rfl⟩
  · obtain ⟨z', hr, -⟩ := exec_next_reaches he
    rwa [hr.coder]
  · rwa [State.coder_raiseFetch]
  · rwa [State.coder_returnRun]
  · exact State.bounds_work hs task
  · exact State.bounds_serve (s := { s with requests := rest }) hs q
  · exact hs

/-! ### The end-of-segment flag (R478, R479) -/

theorem Coder.mid_zero (k : Coder) : k.mid 0 = k.low := by
  rw [Coder.mid_eq, Nat.mul_zero, Nat.zero_div, Nat.add_zero, BitVec.ofNat_toNat, BitVec.setWidth_eq]

/-- The flag's part of the range is `low` alone: all four bytes leave, and 1 bits fill `high`. -/
theorem Coder.encode_eos (k : Coder) :
    (k.encode true 0).2 = bytesOf k.low ∧ (k.encode true 0).1.high = 0xFFFFFFFF ∧
      ((k.encode true 0).1.low = 1 ∨ (k.encode true 0).1.low = 0x100 ∨ (k.encode true 0).1.low = 0x10000 ∨
        (k.encode true 0).1.low = 0x1000000) := by
  obtain ⟨e, he⟩ : ∃ e : Coder, e = { k with high := k.low } := ⟨_, rfl⟩
  have hencode : k.encode true 0 = Coder.renormEncode 4 e := by
    rw [he, Coder.encode, Coder.narrow, if_pos rfl, Coder.mid_zero]
  have hlow : e.low = k.low := by rw [he]
  have hhigh : e.high.toNat = k.low.toNat := by rw [he]
  have hlt := k.low.isLt
  have h0 : e.sameTop = true := by rw [Coder.sameTop_iff, hlow, hhigh]
  have h1 : e.shift.sameTop = true := by
    simp only [Coder.sameTop_iff, Coder.shift_high, Coder.shift_low, hlow, hhigh]
    split <;> omega
  have h2 : e.shift.shift.sameTop = true := by
    simp only [Coder.sameTop_iff, Coder.shift_high, Coder.shift_low, hlow, hhigh]
    split_ifs <;> omega
  have h3 : e.shift.shift.shift.sameTop = true := by
    simp only [Coder.sameTop_iff, Coder.shift_high, Coder.shift_low, hlow, hhigh]
    split_ifs <;> omega
  rw [hencode, Coder.renormEncode_of_sameTop h0, Coder.renormEncode_of_sameTop h1, Coder.renormEncode_of_sameTop h2,
    Coder.renormEncode_of_sameTop h3, Coder.renormEncode]
  refine ⟨?_, ?_, ?_⟩
  · refine ((bytesOf_eq_iff ..).mpr ?_).symm
    simp only [lead, List.getD_cons_zero, List.getD_cons_succ, Coder.topByte_toNat, Coder.shift_high, hhigh]
    omega
  · have hfull : e.shift.shift.shift.shift.high.toNat = 0xFFFFFFFF := by
      simp only [Coder.shift_high, hhigh]
      omega
    exact BitVec.eq_of_toNat_eq hfull
  · have hend : e.shift.shift.shift.shift.low.toNat = 1 ∨ e.shift.shift.shift.shift.low.toNat = 0x100 ∨
        e.shift.shift.shift.shift.low.toNat = 0x10000 ∨ e.shift.shift.shift.shift.low.toNat = 0x1000000 := by
      simp only [Coder.shift_low, hlow]
      split_ifs <;> omega
    exact hend.imp BitVec.eq_of_toNat_eq
      (.imp BitVec.eq_of_toNat_eq (.imp BitVec.eq_of_toNat_eq BitVec.eq_of_toNat_eq))

/-- Settles O45: the step is `encode(1, 0)`. -/
theorem endOfSegmentFlush : Obligations.EndOfSegmentFlush := by
  intro s hf hp _
  obtain ⟨hbytes, hhigh, hlow⟩ := s.coder.encode_eos
  refine ⟨(s.coder.encode true 0).1, ?_, hhigh, ?_, hlow⟩
  · have hstep : step s = .next { s.encodeBit true 0 with phase := .work (.finish .compressed) } := step_work hf hp
    rw [hstep, State.encodeBit_eq, hbytes]
    rfl
  · rw [Coder.encode, Coder.renormEncode_curr, Coder.narrow_curr]

/-! ### The decoder follows the encoder (R470, R507) -/

/-- The first four bytes of `w` make a number in the coder's range. -/
def Coder.Covers (k : Coder) (w : List Byte) : Prop := k.low.toNat ≤ lead w ∧ lead w ≤ k.high.toNat

/-- Bytes that continue in the range after the loop begin in the range before it. -/
theorem Coder.covers_renormEncode (fuel : Nat) {k : Coder} {w : List Byte}
    (h : (Coder.renormEncode fuel k).1.Covers w) : k.Covers ((Coder.renormEncode fuel k).2 ++ w) := by
  induction fuel generalizing k with
  | zero => exact h
  | succ n ih =>
    by_cases htop : k.sameTop = true
    · rw [Coder.renormEncode_of_sameTop htop] at h ⊢
      obtain ⟨hlo, hhi⟩ := ih h
      rw [Coder.sameTop_iff] at htop
      rw [Coder.shift_low] at hlo
      rw [Coder.shift_high] at hhi
      unfold Coder.Covers
      rw [List.cons_append, lead_cons, Coder.topByte_toNat]
      split at hlo <;> omega
    · rw [Coder.renormEncode_of_not_sameTop htop] at h ⊢
      exact h

/-- Bytes that continue a coded bit begin in that bit's part of the range. -/
theorem Coder.covers_narrow {k : Coder} {y : Bool} {p : Nat} {w : List Byte} (h : (k.encode y p).1.Covers w) :
    (k.narrow y p).Covers ((k.encode y p).2 ++ w) := Coder.covers_renormEncode 4 h

/-- Bytes that continue a sequence of coded bits begin in the range before it. -/
theorem Coder.covers_encodeAll {bits : List (Bool × Nat)} {k : Coder} {w : List Byte} (hk : k.Bounds)
    (hp : ∀ b ∈ bits, b.2 < 65536) (h : (k.encodeAll bits).1.Covers w) : k.Covers ((k.encodeAll bits).2 ++ w) := by
  induction bits generalizing k with
  | nil => exact h
  | cons b rest ih =>
    obtain ⟨y, p⟩ := b
    obtain ⟨hp1, hrest⟩ := List.forall_mem_cons.mp hp
    have hnext := Coder.bounds_encode hk hp1 y
    obtain ⟨-, hlt, -⟩ := hk
    obtain ⟨hplo, -, hphi⟩ := Coder.narrow_part hlt hp1 y
    obtain ⟨hlo, hhi⟩ := Coder.covers_narrow (ih hnext hrest h)
    simp only [Coder.encodeAll, List.append_assoc]
    exact ⟨hplo.trans hlo, hhi.trans hphi⟩

/-- A decoder in front of the bytes of one coded bit, where they begin in the bit's part, decodes it and comes to stand in
front of what follows, with the encoder's `low` and `high`. -/
theorem Coder.decode_encode {e d : Coder} {y : Bool} {p : Nat} {input w : List Byte} (hl : d.low = e.low)
    (hh : d.high = e.high) (hlt : e.low.toNat < e.high.toNat) (hp : p < 65536)
    (hcovers : (e.narrow y p).Covers ((e.encode y p).2 ++ w)) (hin : 4 ≤ input.length)
    (hahead : d.ahead input = (e.encode y p).2 ++ w) :
    ∃ d' rest, d.decode p input = .bit y d' rest ∧ d'.low = (e.encode y p).1.low ∧ d'.high = (e.encode y p).1.high ∧
      d'.ahead rest = w := by
  obtain ⟨hlo, hhi⟩ := hcovers
  rw [← hahead, Coder.lead_ahead] at hlo hhi
  obtain ⟨d', rest, hbit, hl', hh'⟩ := Coder.decode_of_mem_part hl hh hlt hp hlo hhi hin
  obtain ⟨-, -, hrest⟩ := Coder.decode_follows_encode hl hh hbit
  exact ⟨d', rest, hbit, hl', hh', by rw [hrest, hahead, List.drop_left]⟩

/-- The same over a sequence of bits; eight bytes after it leave the Reader four at every bit, the most a `decode` takes. -/
theorem Coder.decodeAll_encodeAll {bits : List (Bool × Nat)} {e d : Coder} {input w : List Byte} (hl : d.low = e.low)
    (hh : d.high = e.high) (he : e.Bounds) (hp : ∀ b ∈ bits, b.2 < 65536) (hcovers : (e.encodeAll bits).1.Covers w)
    (hw : 8 ≤ w.length) (hahead : d.ahead input = (e.encodeAll bits).2 ++ w) :
    ∃ d' rest, d.decodeAll (bits.map (·.2)) input = some (bits.map (·.1), d', rest) ∧
      d'.low = (e.encodeAll bits).1.low ∧ d'.high = (e.encodeAll bits).1.high ∧ d'.ahead rest = w := by
  induction bits generalizing e d input with
  | nil => exact ⟨d, input, rfl, hl, hh, hahead⟩
  | cons b bits ih =>
    obtain ⟨y, p⟩ := b
    obtain ⟨hp1, hbits⟩ := List.forall_mem_cons.mp hp
    have he1 := Coder.bounds_encode he hp1 y
    obtain ⟨-, hlt, -⟩ := he
    rw [Coder.encodeAll, List.append_assoc] at hahead
    have hin : 4 ≤ input.length := by
      have hlen := congrArg List.length hahead
      simp only [Coder.length_ahead, List.length_append] at hlen
      omega
    obtain ⟨d1, rest1, hdec, hl1, hh1, hahead1⟩ := Coder.decode_encode hl hh hlt hp1
      (Coder.covers_narrow (Coder.covers_encodeAll he1 hbits hcovers)) hin hahead
    obtain ⟨d2, rest2, hall, hrange⟩ := ih hl1 hh1 he1 hbits hcovers hahead1
    refine ⟨d2, rest2, ?_, hrange⟩
    simp only [List.map_cons, Coder.decodeAll, hdec, hall]

theorem Coder.bounds_encodeAll {bits : List (Bool × Nat)} {k : Coder} (hk : k.Bounds) (hp : ∀ b ∈ bits, b.2 < 65536) :
    (k.encodeAll bits).1.Bounds := by
  induction bits generalizing k with
  | nil => exact hk
  | cons b rest ih =>
    obtain ⟨hp1, hrest⟩ := List.forall_mem_cons.mp hp
    exact ih (Coder.bounds_encode hk hp1 b.1) hrest

/-- The load of `curr` puts the decoder in front of the Reader's bytes (R481). -/
theorem Coder.loadCurr_ahead (k : Coder) {input : List Byte} (h : 4 ≤ input.length) :
    ∃ d rest, Coder.loadCurr 4 k input = (d, rest, true) ∧ d.low = k.low ∧ d.high = k.high ∧ d.ahead rest = input := by
  obtain ⟨d, hload, hahead⟩ := Coder.loadCurr_of_le k h
  obtain ⟨hl, hh⟩ := Coder.loadCurr_range 4 k input
  rw [hload] at hl hh
  exact ⟨d, _, hload, hl, hh, hahead⟩

/-- What the end-of-segment flag puts out, with the trailer's zeros after it, begins with `low` (R479). -/
theorem Coder.lead_eos (k : Coder) : lead ((k.encode true 0).2 ++ [0, 0, 0, 0]) = k.low.toNat := by
  obtain ⟨hbytes, -⟩ := k.encode_eos
  rw [hbytes, lead_bytesOf_append]

theorem Coder.length_eos (k : Coder) : ((k.encode true 0).2 ++ [0, 0, 0, 0]).length = 8 := by
  obtain ⟨hbytes, -⟩ := k.encode_eos
  rw [hbytes]
  rfl

/-- A decoder in front of the flag and the trailer decodes the flag and has only the trailer's zeros in `curr` (R482). -/
theorem Coder.decode_eos {e d : Coder} {input : List Byte} (hl : d.low = e.low) (hh : d.high = e.high)
    (hlt : e.low.toNat < e.high.toNat) (hahead : d.ahead input = (e.encode true 0).2 ++ [0, 0, 0, 0]) :
    ∃ d', d.decode 0 input = .bit true d' [] ∧ d'.curr = 0 ∧ d'.low = (e.encode true 0).1.low ∧
      d'.high = (e.encode true 0).1.high := by
  have hpart : (e.narrow true 0).Covers ((e.encode true 0).2 ++ [0, 0, 0, 0]) := by
    rw [Coder.narrow, if_pos rfl, Coder.mid_zero]
    exact ⟨e.lead_eos.ge, e.lead_eos.le⟩
  have hin : 4 + input.length = 8 := by rw [← Coder.length_ahead, hahead, Coder.length_eos]
  obtain ⟨d', rest, hbit, hl', hh', htrailer⟩ :=
    Coder.decode_encode hl hh hlt (by decide) hpart (by omega) hahead
  have hrest : rest = [] := by
    have hlen : 4 + rest.length = 4 := by rw [← Coder.length_ahead, htrailer]; rfl
    exact List.eq_nil_of_length_eq_zero (by omega)
  have hcurr : d'.curr.toNat = 0 := by
    rw [← Coder.lead_ahead d' rest, htrailer]
    rfl
  exact ⟨d', hrest ▸ hbit, BitVec.eq_of_toNat_eq hcurr, hl', hh'⟩

/-- Settles O46: the decoder stands in front of the flag's four bytes, which are `low`, when it has decoded the bits, and
in front of the trailer's when it has decoded the flag. -/
theorem coderRoundTrip : Obligations.CoderRoundTrip := by
  intro bits hp sent last
  obtain ⟨-, hreset, -⟩ := resetHasInvariants
  obtain ⟨-, hlt, -⟩ : sent.1.Bounds := Coder.bounds_encodeAll hreset hp
  have hlead := sent.1.lead_eos
  have hlength : (last.2 ++ [0, 0, 0, 0]).length = 8 := sent.1.length_eos
  obtain ⟨k, rest, hload, hkl, hkh, hk⟩ := Coder.loadCurr_ahead .reset (input := sent.2 ++ (last.2 ++ [0, 0, 0, 0]))
    (by rw [List.length_append]; omega)
  obtain ⟨d, left, hbits, hdl, hdh, hd⟩ := Coder.decodeAll_encodeAll hkl hkh hreset hp
    ⟨hlead.ge, hlead.trans_le hlt.le⟩ hlength.ge hk
  obtain ⟨e, hflag, hcurr, hel, heh⟩ := Coder.decode_eos hdl hdh hlt hd
  exact ⟨k, rest, d, left, e, by rw [List.append_assoc]; exact hload, hbits, hflag, hcurr, hel, heh⟩

/-! ### Requests out of order (R504) -/

theorem State.begin_of_not_accepts {s : State} {role : Role} {t : Task} (h : ¬ s.accepts role = true) :
    s.begin role t = { s with reports := s.reports ++ [.refused] } := if_neg h

/-- Settles O56: each of the three requests is a `begin` in a role in which the core accepts nothing. -/
theorem outOfOrderIsRefused : Obligations.OutOfOrderIsRefused := by
  intro s q rest hp hr hq hout
  rw [step_request_idle hp hr]
  refine congrArg Host.Outcome.next ?_
  have hno : ∀ role other : Role, role ≠ other → (s.loaded = false ∨ s.fault ≠ none ∨ s.role = other) →
      ¬ { s with requests := rest }.accepts role = true := by
    intro role other hne h hacc
    obtain ⟨hl, hf, hrole⟩ := (State.accepts_iff _ role).mp hacc
    rcases h with h | h | h
    · exact Bool.false_ne_true (h.symm.trans hl)
    · exact h hf
    · exact hne (hrole.symm.trans h)
  rcases hq with ⟨c, rfl⟩ | rfl | rfl
  · exact State.begin_of_not_accepts (hno .encoding .decoding nofun (by simpa using hout))
  · exact State.begin_of_not_accepts (hno .encoding .decoding nofun (by simpa using hout))
  · exact State.begin_of_not_accepts (hno .decoding .encoding nofun (by simpa using hout))

end Sys2Proof.Machine
end

section
/-! Proofs about isolation and faults: an instruction reaches its own `Zpaql` and, in PCOMP, the sinks (R82, R86, R540); a
faulted core has no operation in progress (R536, R537). -/

namespace Sys2Proof.Machine

/-! ### What an instruction reaches (R82, R86, R540) -/

/-- HCOMP has no sink (R27): a byte put goes nowhere. -/
theorem State.not_attached_of_hcomp {s : State} (h : s.inst = .hcomp) :
    s.outAttached = false ∧ s.sumAttached = false := by
  simp [State.outAttached, State.sumAttached, h]

/-- However an instruction ends, apart from its `Zpaql` it has changed at most the latch, the phase, the reports and, in
PCOMP, the bytes at the sinks. -/
theorem Reaches.frame {s t : State} {z' : Zpaql} (h : Reaches s z' (.next t)) :
    ∃ fault phase output checksum reports,
      t = { s.setVm z' with
        fault := fault, phase := phase, output := output, checksum := checksum, reports := reports } ∧
      (s.inst = .hcomp → output = s.output ∧ checksum = s.checksum) := by
  rcases h with h | ⟨f, h⟩ | h | ⟨b, h⟩ <;> cases h
  · exact ⟨_, _, _, _, _, rfl, fun _ => ⟨s.output_setVm z', s.checksum_setVm z'⟩⟩
  · exact ⟨_, _, _, _, _, rfl, fun _ => ⟨s.output_setVm z', s.checksum_setVm z'⟩⟩
  · exact ⟨_, _, _, _, _, rfl, fun _ => ⟨s.output_setVm z', s.checksum_setVm z'⟩⟩
  · refine ⟨_, _, _, _, _, rfl, fun hi => ?_⟩
    obtain ⟨hout, hsum⟩ := State.not_attached_of_hcomp hi
    simp [hout, hsum]

/-- Settles O36: the frame of the four ends of an instruction, field by field. -/
theorem execReachesOnlyItsInstance : Obligations.ExecReachesOnlyItsInstance := by
  intro i s t h
  obtain ⟨z', hr, hconfig, -⟩ := exec_next_reaches h
  obtain ⟨fault, phase, output, checksum, reports, rfl, hsinks⟩ := hr.frame
  have hvm : s.vm.SameConfig (s.setVm z').vm := by rwa [State.vm_setVm]
  exact ⟨fun hi => ⟨(s.pcomp_setVm z').trans (if_neg (by simp [hi])), hsinks hi⟩,
    fun hi => (s.hcomp_setVm z').trans (if_neg (by simp [hi])),
    s.inst_setVm z', hvm, s.pred_setVm z', s.coder_setVm z', s.pp_setVm z', s.header_setVm z', s.role_setVm z',
    s.loaded_setVm z', s.caps_setVm z', s.outSink_setVm z', s.sumSink_setVm z', s.reader_setVm z', s.writer_setVm z',
    s.requests_setVm z'⟩

/-! ### A faulted core is idle (R536, R537) -/

theorem State.faultedIsIdle_of_fault_eq_none {s : State} (h : s.fault = none) : s.FaultedIsIdle :=
  fun hf => absurd h hf

theorem State.faultedIsIdle_raise (f : CoreFault) (s : State) : (s.raise f).FaultedIsIdle := fun _ => s.phase_raise f

/-- An instruction that sets the latch has raised, and so ended the `run`. -/
theorem Reaches.faultedIsIdle {s t : State} {z' : Zpaql} (h : Reaches s z' (.next t)) (hf : s.fault = none) :
    t.FaultedIsIdle := by
  have hclear : (s.setVm z').fault = none := (s.fault_setVm z').trans hf
  rcases h with h | ⟨f, h⟩ | h | ⟨b, h⟩ <;> cases h
  · exact State.faultedIsIdle_of_fault_eq_none hclear
  · exact State.faultedIsIdle_raise f _
  · exact State.faultedIsIdle_of_fault_eq_none hclear
  · exact State.faultedIsIdle_of_fault_eq_none hclear

theorem State.faultedIsIdle_raiseFetch (s : State) (e : DecodeError) : (s.raiseFetch e).FaultedIsIdle := by
  cases e with
  | endsAfter got => exact State.faultedIsIdle_raise _ _

theorem State.fault_returnRun (s : State) (next : Task) : (s.returnRun next).fault = s.fault := by
  cases hi : s.inst <;> simp only [State.returnRun, hi]

@[simp] theorem State.fault_update (s : State) (y : Bool) (next : Task) : (s.update y next).fault = s.fault := by
  rcases s.update_cases y next with ⟨-, e⟩ | ⟨-, e⟩ <;> rw [e]

theorem faultedIsIdle_afterFlag (y : Bool) {s : State} (hf : s.fault = none) : (afterFlag y s).FaultedIsIdle := by
  rcases afterFlag_cases y s with ⟨-, -, e⟩ | ⟨-, -, e⟩ | ⟨-, e⟩ <;> rw [e]
  · exact State.faultedIsIdle_of_fault_eq_none hf
  · exact State.faultedIsIdle_raise _ _
  · exact State.faultedIsIdle_of_fault_eq_none hf

/-- A `decode` raises, or goes on with the latch as it was. -/
theorem State.faultedIsIdle_decodeBit {s : State} (hf : s.fault = none) (p : Nat) {k : Bool → State → State}
    (hk : ∀ (y : Bool) (u : State), u.fault = none → (k y u).FaultedIsIdle) : (s.decodeBit p k).FaultedIsIdle := by
  rcases s.decodeBit_cases p k with ⟨y, c, rest, -, e⟩ | e | e <;> rw [e]
  · exact hk y { s with coder := c, reader := rest } hf
  · exact State.faultedIsIdle_raise _ _
  · exact State.faultedIsIdle_raise _ _

theorem faultedIsIdle_decodeFlag {s : State} (hf : s.fault = none) : (decodeFlag s).FaultedIsIdle := by
  rcases decodeFlag_cases s with ⟨-, e⟩ | ⟨c, rest, -, -, e⟩ | ⟨c, rest, -, -, e⟩ <;> rw [e]
  · exact State.faultedIsIdle_decodeBit hf 0 fun y _ => faultedIsIdle_afterFlag y
  · exact State.faultedIsIdle_decodeBit (s := { s with coder := c, reader := rest }) hf 0
      fun y _ => faultedIsIdle_afterFlag y
  · exact State.faultedIsIdle_raise _ _

theorem faultedIsIdle_decodeBits {s : State} (hf : s.fault = none) (v : BitVec 9) : (decodeBits v s).FaultedIsIdle := by
  unfold decodeBits
  split
  · exact State.faultedIsIdle_of_fault_eq_none hf
  · exact State.faultedIsIdle_decodeBit (s := s.predict) hf _ fun y u hu =>
      State.faultedIsIdle_of_fault_eq_none ((u.fault_update y _).trans hu)

theorem State.faultedIsIdle_ppWrite {s : State} (hf : s.fault = none) (sym : Symbol) :
    (s.ppWrite sym).FaultedIsIdle := by
  rcases s.ppWrite_phase sym with ⟨hsame, -⟩ | ⟨f, -, hidle, -⟩ | ⟨hsame, -⟩
  · exact State.faultedIsIdle_of_fault_eq_none (hsame.trans hf)
  · exact fun _ => hidle
  · exact State.faultedIsIdle_of_fault_eq_none (hsame.trans hf)

/-- A part of an operation either raises or leaves the latch clear; encoding never raises. -/
theorem State.faultedIsIdle_work {s : State} (hf : s.fault = none) (task : Task) : (s.work task).FaultedIsIdle := by
  cases task with
  | encodeFlag c => exact State.faultedIsIdle_of_fault_eq_none hf
  | encodeBits c left =>
    cases left with
    | zero => exact State.faultedIsIdle_of_fault_eq_none hf
    | succ k => exact State.faultedIsIdle_of_fault_eq_none ((State.fault_update ..).trans hf)
  | encodeEos => exact State.faultedIsIdle_of_fault_eq_none hf
  | decodeFlag => exact faultedIsIdle_decodeFlag hf
  | decodeBits v => exact faultedIsIdle_decodeBits hf v
  | write sym => exact State.faultedIsIdle_ppWrite hf sym
  | finish r => exact State.faultedIsIdle_of_fault_eq_none hf

/-- A `load` clears the latch, or raises. -/
theorem State.faultedIsIdle_load (s : State) (role : Role) (bytes : List Byte) :
    (s.load role bytes).FaultedIsIdle := by
  rcases s.load_cases role bytes with ⟨x, -, e⟩ | ⟨f, -, e⟩ <;> rw [e]
  · exact State.faultedIsIdle_of_fault_eq_none rfl
  · exact State.faultedIsIdle_raise _ _

/-- A request loads, starts an operation with the latch clear, or touches neither the latch nor the phase. -/
theorem State.faultedIsIdle_serve {s : State} (hs : s.FaultedIsIdle) (q : Request) : (s.serve q).FaultedIsIdle := by
  rcases s.serve_cases q with ⟨role, bytes, -, e⟩ | ⟨task, hf, -, e, -⟩ | e | ⟨bytes, e⟩ | ⟨out, sum, e⟩ <;> rw [e]
  · exact s.faultedIsIdle_load role bytes
  · exact State.faultedIsIdle_of_fault_eq_none hf
  all_goals exact hs

/-- Settles O41: from a clear latch a step raises or leaves it clear; from a set one it can only serve a request. -/
theorem faultedIsIdleKept : Obligations.FaultedIsIdleKept := by
  intro s t hs h
  rcases step_next_cases h with ⟨next, i, hf, -, he⟩ | ⟨next, e, -, -, rfl⟩ | ⟨next, hf, -, rfl⟩ |
    ⟨task, hf, -, rfl⟩ | ⟨q, rest, -, -, rfl⟩ | ⟨-, rfl⟩
  · obtain ⟨z', hr, -⟩ := exec_next_reaches he
    exact hr.faultedIsIdle hf
  · exact s.faultedIsIdle_raiseFetch e
  · exact State.faultedIsIdle_of_fault_eq_none ((s.fault_returnRun next).trans hf)
  · exact State.faultedIsIdle_work hf task
  · exact State.faultedIsIdle_serve (s := { s with requests := rest }) hs q
  · exact hs

end Sys2Proof.Machine
end
